-- ==== Sys2Proof/Word.lean ====
section
/-! DEFINITION. The word types of the block: every access moves one byte (R93), addresses have 16 bits (R80),
a page offset has 13 (R81). -/

namespace Sys2Proof

/-- One byte: the only unit any access of the block moves (R93). -/
abbrev Byte := BitVec 8

/-- A CPU memory address (R80). -/
abbrev Addr := BitVec 16

/-- The offset of a byte within an 8 KiB page: the low 13 bits of an address (R81). -/
abbrev PageOffset := BitVec 13

/-- An I/O port number (R82). -/
abbrev Port := BitVec 8

end Sys2Proof
end

