-- ==== Sys2Proof/Config.lean ====
section
/-! DEFINITION. What an implementation of the block fixes: the constants of R7, the parameters of R8 as plain data, the
reference configurations of R97, and the free values (opaque constants without a body). The checks of R9 stand in
Machine/Configure.lean. -/

namespace Sys2Proof

/-! ### Constants the source fixes (R7) -/

/-- `PAGE_SIZE`. -/
abbrev pageSize : Nat := 8192
/-- `IO_FLOAT`: what an unclaimed port reads as. -/
abbrev ioFloat : Byte := 0xFF#8
/-- `NIL_READ`: what a Nil page reads as. -/
abbrev nilRead : Byte := 0x00#8
/-- `MMS_UNLOCK_SEQ`. -/
abbrev mmsUnlockSeq : List Byte := [0x04#8, 0x0C#8, 0x04#8, 0x08#8, 0x0C#8, 0x08#8]
/-- The `lockState` that means unlocked (R35). -/
abbrev unlocked : Nat := 6
/-- `SECTOR_SIZE`. -/
abbrev sectorSize : Nat := 128
/-- `SECTORS_PER_TRACK`. -/
abbrev sectorsPerTrack : Nat := 26
/-- `TRACKS`. -/
abbrev tracks : Nat := 77
/-- `IMAGE_SIZE`. -/
abbrev imageSize : Nat := 256256
/-- `SETTLE_CYCLES`. -/
abbrev settleCycles : Nat := 120
/-- `CMD_RSB`, the one command byte the source gives. -/
abbrev cmdRsb : Byte := 0x07#8
/-- ROM image sizes: "exactly 2048 or 4096 bytes" (R7, R90). -/
abbrev romImageSizes : List Nat := [2048, 4096]

/-! ### The parts of a configuration (R8) -/

/-- `DECODER_VARIANT`. -/
inductive Variant where
  | h88 | h89 | mms77318
deriving DecidableEq, Repr

/-- The kind of a page (R30). A write-under-ROM page carries its two masks and the index of its shadow page (R32). -/
inductive PageKind where
  | rom
  | ram
  | nil
  | wur (maskRO maskInstalled : Byte) (shadow : Nat)
deriving DecidableEq, Repr

/-- A page of the arena, without its bytes. Its base address is `slot ++ 0`: bits 12:0 of a base are zero (R30), so
the slot number is all of it. -/
structure Page where
  kind : PageKind
  slot : BitVec 3
deriving DecidableEq, Repr

/-- `PG[p].base` (R30). -/
def Page.base (p : Page) : Addr := p.slot ++ 0#13

/-- A device that may own I/O ports (R37, R412). `external` stands for a device outside the block (R4). -/
inductive Device where
  | gpp
  | hif
  | external (id : Nat)
deriving DecidableEq, Repr

/-- One successful ADD_DEVICE: the device owns ports `base .. base + count - 1` (R37, R172). -/
structure Claim where
  dev : Device
  base : Port
  count : Nat
deriving DecidableEq, Repr

/-- What may be registered as `LINK.host` (R41, R272). -/
inductive HostPeer where
  | card
  | external (id : Nat)
deriving DecidableEq, Repr

/-- What may be registered as `LINK.device` (R41, R273). -/
inductive DevicePeer where
  | controller
  | external (id : Nat)
deriving DecidableEq, Repr

/-- `INTA_VECTOR` as plain data: the reference function of R245, or the 256 bytes of another one. -/
inductive IntaVector where
  | reference
  | table (bytes : List Byte)
deriving DecidableEq, Repr

/-- `STATUS_BIT`: the bit of the controller-status byte that reports each error latch (R8, R138). -/
structure StatusBits where
  driveNotReady : BitVec 3
  diskWriteProtected : BitVec 3
  deletedData : BitVec 3
  noRecordFound : BitVec 3
  crcError : BitVec 3
  lateData : BitVec 3
  invalidCommandReceived : BitVec 3
  badTrackOverflow : BitVec 3
deriving DecidableEq, Repr

/-- The reference layout of R138: the latches in the source's order on bits 0 to 7. -/
def StatusBits.reference : StatusBits := ⟨0#3, 1#3, 2#3, 3#3, 4#3, 5#3, 6#3, 7#3⟩

/-- The parameters that decide what a word means: two ports and two command bytes (R8). -/
structure Codes where
  gppPort : Port
  z47PortBase : Port
  cmdWsb : Byte
  cmdRcs : Byte
deriving DecidableEq, Repr

/-- `Z47_PORT_BASE + 1`, the data port (R125). -/
def Codes.z47DataPort (c : Codes) : Port := c.z47PortBase + 1#8

/-- The values the opcode table's rows are written with (R126, R130). -/
def Codes.table : Codes := ⟨0xF2#8, 0x78#8, 0x08#8, 0x01#8⟩

/-- `DRIVE_PRESENT[d]` and `WRITE_PROTECT[d]` of one drive (R8, R52). -/
structure DriveSetup where
  present : Bool
  writeProtect : Bool
deriving DecidableEq, Repr

/-- Everything R8 and R54 call configuration, but for the bytes of the pages and of the drive images. Page index 0 is
`NILPAGE`; page index `p + 1` is entry `p` of `pages` (R30). `NUM_DRIVES` is the length of `drives`. `INT_LEVELS` is at most 8,
since each level is one of the eight bits of `INTC.pending` (R38, R243; log entry 24). -/
structure Config where
  variant : Variant
  pages : List Page
  layouts : List (List Nat)
  codes : Codes
  gppInValue : Byte
  h89Org0Mask : Byte
  mmsUnlockMask : Byte
  mmsBankMask : Byte
  wurUninstalledRead : Byte
  intaVector : IntaVector
  z47IntLevel : Nat
  intLevels : Fin 9
  statusBits : StatusBits
  drives : List DriveSetup
  claims : List Claim
  host : Option HostPeer
  device : Option DevicePeer
  clocked : Bool
deriving DecidableEq, Repr

/-- `NILPAGE`: the index of the arena's Nil page (R30, R33). -/
abbrev nilPage : Nat := 0

/-! ### Free values -/

/-- The byte an IN from `GPP_PORT` returns in the reference configurations: `GPP_IN_VALUE` is OPEN (R8, D13), so nothing
is known of it. Log entry 5. -/
opaque Config.openGppIn : Byte

/-- The byte the `n`-th read of a port handler outside the block returns: such handlers are external functions (R163).
Log entry 6. -/
opaque Config.externalByte : Nat → Byte

/-! ### The reference configurations (R97) -/

/-- W0, the reference overlay page: `maskRO = 0xCF`, `maskInstalled = 0xEF`, shadow R0. -/
def Config.pageW0 : Page := ⟨.wur 0xCF#8 0xEF#8 2, 0#3⟩

/-- R0 .. R7, one RAM page for each slot. -/
def Config.pagesR : List Page := [⟨.ram, 0#3⟩, ⟨.ram, 1#3⟩, ⟨.ram, 2#3⟩, ⟨.ram, 3#3⟩, ⟨.ram, 4#3⟩, ⟨.ram, 5#3⟩, ⟨.ram, 6#3⟩, ⟨.ram, 7#3⟩]

/-- X(b,0) .. X(b,6), the further RAM pages of one MMS77318 bank. -/
def Config.pagesX : List Page := [⟨.ram, 0#3⟩, ⟨.ram, 1#3⟩, ⟨.ram, 2#3⟩, ⟨.ram, 3#3⟩, ⟨.ram, 4#3⟩, ⟨.ram, 5#3⟩, ⟨.ram, 6#3⟩]

/-- The index of W0 is 1 and that of R`s` is `s + 2`; the X pages of bank `b` begin at `10 + 7 * (b - 2)`. -/
def Config.referencePages : Variant → List Page
  | .h88 => pageW0 :: pagesR
  | .h89 => pageW0 :: pagesR
  | .mms77318 => pageW0 :: (pagesR ++ pagesX ++ pagesX ++ pagesX ++ pagesX ++ pagesX ++ pagesX)

/-- [W0, R1, ..., R7]. -/
def Config.layoutNormal : List Nat := [1, 3, 4, 5, 6, 7, 8, 9]

/-- [R0, R1, ..., R7], the ORG-0 bank. -/
def Config.layoutOrg0 : List Nat := [2, 3, 4, 5, 6, 7, 8, 9]

/-- [X(b,0), ..., X(b,6), R7], where `first` is the index of X(b,0). -/
def Config.layoutX (first : Nat) : List Nat :=
  [first, first + 1, first + 2, first + 3, first + 4, first + 5, first + 6, 9]

/-- The layouts of R97, by variant. -/
def Config.referenceLayouts : Variant → List (List Nat)
  | .h88 => [layoutNormal]
  | .h89 => [layoutNormal, layoutOrg0]
  | .mms77318 => [layoutNormal, layoutOrg0, layoutX 10, layoutX 17, layoutX 24, layoutX 31, layoutX 38, layoutX 45]

/-- The reference configuration of a variant, with the values of the fixture of 95_test_vectors.md. Log entry 4. -/
def Config.reference (v : Variant) : Config where
  variant := v
  pages := referencePages v
  layouts := referenceLayouts v
  codes := Codes.table
  gppInValue := Config.openGppIn
  h89Org0Mask := 0x20#8
  mmsUnlockMask := 0x0C#8
  mmsBankMask := 0xE0#8
  wurUninstalledRead := 0x00#8
  intaVector := .reference
  z47IntLevel := 4
  intLevels := 8
  statusBits := StatusBits.reference
  drives := [⟨true, false⟩, ⟨true, false⟩]
  claims := [⟨.gpp, 0xF2#8, 1⟩, ⟨.hif, 0x78#8, 2⟩]
  host := some .card
  device := some .controller
  clocked := true

end Sys2Proof
end

