-- ==== Sys2Proof/Syntax.lean ====
section
/-! DEFINITION. The operations of the block: one constructor per row of spec/opcode_table.json (R120), and the words that
spell them at the four interfaces (R121, R127, R129, R130). -/

namespace Sys2Proof

/-- One operation offered at an interface of the block (R120). A 1-bit operand is a Bool. -/
inductive Instr where
  /-- MRD, R160. -/
  | mrd (addr : Addr)
  /-- MWR, R161. -/
  | mwr (addr : Addr) (data : Byte)
  /-- INTA, R162: the address is carried and unread. -/
  | inta (addr : Addr)
  /-- IN, R163. -/
  | inp (port : Port)
  /-- OUT, R164. -/
  | out (port : Port) (data : Byte)
  /-- TICK, R165. -/
  | tick (cycleCount : BitVec 16)
  /-- RESET, R166. -/
  | reset
  /-- GPP_WR, R200: the view of OUT at `GPP_PORT`. -/
  | gppWr (data : Byte)
  /-- GPP_RD, R212: the view of IN at `GPP_PORT`. -/
  | gppRd
  /-- Z47_STAT, R290: the view of IN at `Z47_PORT_BASE`. -/
  | z47Stat
  /-- Z47_CMD, R291: the view of OUT at `Z47_PORT_BASE`. -/
  | z47Cmd (data : Byte)
  /-- Z47_DIN, R292: the view of IN at `Z47_PORT_BASE + 1`. -/
  | z47Din
  /-- Z47_DOUT, R293: the view of OUT at `Z47_PORT_BASE + 1`. -/
  | z47Dout (data : Byte)
  /-- SEND_HOST, R260. -/
  | sendHost (data : Byte)
  /-- SEND_DRIVE, R261. -/
  | sendDrive (data : Byte)
  /-- READ_BY_HOST, R262. -/
  | readByHost
  /-- READ_BY_DRIVE, R263. -/
  | readByDrive
  /-- SET_BUSY, R267. -/
  | setBusy (b : Bool)
  /-- SET_DTR, R268. -/
  | setDtr (b : Bool)
  /-- SET_DDOUT, R269. -/
  | setDdout (b : Bool)
  /-- SET_ERROR, R270. -/
  | setError (b : Bool)
  /-- SET_MR, R271. -/
  | setMr (b : Bool)
  /-- SET_DTAK, R274. -/
  | setDtak (b : Bool)
  /-- RAISE_INT, R240. -/
  | raiseInt (level : BitVec 3)
  /-- LOWER_INT, R241. -/
  | lowerInt (level : BitVec 3)
  /-- RAISE_NMI, R242. -/
  | raiseNmi
  /-- Z47_RSB, R340: the command byte `CMD_RSB`. -/
  | z47Rsb
  /-- Z47_WSB, R341: the command byte `CMD_WSB`. -/
  | z47Wsb
  /-- Z47_RCS, R343: the command byte `CMD_RCS`. -/
  | z47Rcs
  /-- Z47_INVALID, R344: any other command byte. -/
  | z47Invalid (command : Byte)
deriving DecidableEq, Repr

/-- A word as it arrives at an interface. The format is told by the interface, not by the bits (R141): T is the CPU's and
the clock's (R121), LK the link's (R127), IQ the interrupt lines' (R129), ZC the command bytes on the link (R130). -/
inductive OpWord where
  | t (w : BitVec 27)
  | lk (w : BitVec 12)
  | iq (w : BitVec 6)
  | zc (w : Byte)
deriving DecidableEq, Repr

end Sys2Proof
end

