-- ==== Sys2Proof/WellFormed.lean ====
section
/-! DEFINITION. Which operations are the spelling the decoder gives to some word. Every operand fits its field by its type;
what is left is that a word with two names has one spelling (R126, R130), and that the parameters that decide it are
distinct (R9 (d), (f)). -/

namespace Sys2Proof

/-- R9 (d): `GPP_PORT`, `Z47_PORT_BASE` and `Z47_PORT_BASE + 1` are distinct, and the last is below 256. -/
def Codes.portsOk (c : Codes) : Bool :=
  c.z47PortBase != 0xFF#8 && c.gppPort != c.z47PortBase && c.gppPort != c.z47DataPort

/-- R9 (f): `CMD_RSB`, `CMD_WSB` and `CMD_RCS` are distinct. -/
def Codes.commandsOk (c : Codes) : Bool :=
  c.cmdWsb != cmdRsb && c.cmdRcs != cmdRsb && c.cmdWsb != c.cmdRcs

/-- The parameters of an encoding are legal (R9 (d), (f)). -/
def Codes.ok (c : Codes) : Bool := c.portsOk && c.commandsOk

/-- The port is none of the three that have rows of their own (R125, R126). -/
def Codes.plainPort (c : Codes) (p : Port) : Bool :=
  p != c.gppPort && p != c.z47PortBase && p != c.z47DataPort

/-- The byte is no command of the controller (R130, R333). -/
def Codes.noCommand (c : Codes) (b : Byte) : Bool :=
  b != cmdRsb && b != c.cmdWsb && b != c.cmdRcs

/-- The operation is the decoder's own spelling of its word. -/
def Instr.wf (c : Codes) : Instr → Bool
  | .mrd _ => true
  | .mwr _ _ => true
  | .inta _ => true
  | .inp p => c.plainPort p
  | .out p _ => c.plainPort p
  | .tick _ => true
  | .reset => true
  | .gppWr _ => true
  | .gppRd => true
  | .z47Stat => true
  | .z47Cmd _ => true
  | .z47Din => true
  | .z47Dout _ => true
  | .sendHost _ => true
  | .sendDrive _ => true
  | .readByHost => true
  | .readByDrive => true
  | .setBusy _ => true
  | .setDtr _ => true
  | .setDdout _ => true
  | .setError _ => true
  | .setMr _ => true
  | .setDtak _ => true
  | .raiseInt _ => true
  | .lowerInt _ => true
  | .raiseNmi => true
  | .z47Rsb => true
  | .z47Wsb => true
  | .z47Rcs => true
  | .z47Invalid b => c.noCommand b

end Sys2Proof
end

