-- ==== Sys2Proof/Decode.lean ====
section
/-! DEFINITION. The decoder of the four formats, total on every word and rejecting the reserved ones by name (R121 to R130,
R142), the encoder beside it, and the reading of an opcode-table word. -/

namespace Sys2Proof

/-- Why a word spells no operation (R142). -/
inductive DecodeError where
  /-- T `kind = 7` (R124). -/
  | reservedTransaction
  /-- LK code 10 to 15 (R127). -/
  | reservedLinkCode
  /-- IQ `op = 3` (R129). -/
  | reservedLineOp
deriving DecidableEq, Repr

/-! ### Fields -/

/-- T bits 26:24 (R121). -/
def tKind (w : BitVec 27) : BitVec 3 := w.extractLsb' 24 3
/-- T bits 23:8 (R121). -/
def tAddr (w : BitVec 27) : BitVec 16 := w.extractLsb' 8 16
/-- T bits 15:8, the port of IN and OUT (R123). -/
def tPort (w : BitVec 27) : Port := w.extractLsb' 8 8
/-- T bits 7:0 (R121). -/
def tData (w : BitVec 27) : Byte := w.extractLsb' 0 8
/-- LK bits 11:8 (R127). -/
def lkCode (w : BitVec 12) : BitVec 4 := w.extractLsb' 8 4
/-- LK bits 7:0 (R127). -/
def lkData (w : BitVec 12) : Byte := w.extractLsb' 0 8
/-- LK bit 0, the level of a signal-set operation (R127). -/
def lkBit (w : BitVec 12) : Bool := w.getLsbD 0
/-- IQ bits 5:4 (R129). -/
def iqOp (w : BitVec 6) : BitVec 2 := w.extractLsb' 4 2
/-- IQ bits 2:0; bit 3 is ignored (R129). -/
def iqLevel (w : BitVec 6) : BitVec 3 := w.extractLsb' 0 3

/-! ### Decoding -/

/-- Names an IN by its port (R125, R126). -/
def nameIn (c : Codes) (p : Port) : Instr :=
  if p = c.gppPort then .gppRd
  else if p = c.z47PortBase then .z47Stat
  else if p = c.z47DataPort then .z47Din
  else .inp p

/-- Names an OUT by its port (R125, R126). -/
def nameOut (c : Codes) (p : Port) (v : Byte) : Instr :=
  if p = c.gppPort then .gppWr v
  else if p = c.z47PortBase then .z47Cmd v
  else if p = c.z47DataPort then .z47Dout v
  else .out p v

/-- Format T (R121 to R124). -/
def decodeT (c : Codes) (w : BitVec 27) : Except DecodeError Instr :=
  match (tKind w).toNat with
  | 0 => .ok (.mrd (tAddr w))
  | 1 => .ok (.mwr (tAddr w) (tData w))
  | 2 => .ok (.inta (tAddr w))
  | 3 => .ok (nameIn c (tPort w))
  | 4 => .ok (nameOut c (tPort w) (tData w))
  | 5 => .ok (.tick (tAddr w))
  | 6 => .ok .reset
  | _ => .error .reservedTransaction

/-- Format LK (R127). -/
def decodeLk (w : BitVec 12) : Except DecodeError Instr :=
  match (lkCode w).toNat with
  | 0 => .ok (.sendHost (lkData w))
  | 1 => .ok (.sendDrive (lkData w))
  | 2 => .ok .readByHost
  | 3 => .ok .readByDrive
  | 4 => .ok (.setBusy (lkBit w))
  | 5 => .ok (.setDtr (lkBit w))
  | 6 => .ok (.setDdout (lkBit w))
  | 7 => .ok (.setError (lkBit w))
  | 8 => .ok (.setMr (lkBit w))
  | 9 => .ok (.setDtak (lkBit w))
  | _ => .error .reservedLinkCode

/-- Format IQ (R129). -/
def decodeIq (w : BitVec 6) : Except DecodeError Instr :=
  match (iqOp w).toNat with
  | 0 => .ok (.raiseInt (iqLevel w))
  | 1 => .ok (.lowerInt (iqLevel w))
  | 2 => .ok .raiseNmi
  | _ => .error .reservedLineOp

/-- Format ZC: the whole byte is compared (R130, R333). -/
def decodeZc (c : Codes) (b : Byte) : Instr :=
  if b = cmdRsb then .z47Rsb
  else if b = c.cmdWsb then .z47Wsb
  else if b = c.cmdRcs then .z47Rcs
  else .z47Invalid b

/-- The decoder: the interface tells the format (R141). -/
def decode (c : Codes) : OpWord → Except DecodeError Instr
  | .t w => decodeT c w
  | .lk w => decodeLk w
  | .iq w => decodeIq w
  | .zc b => .ok (decodeZc c b)

/-! ### Encoding: the canonical word, zero in every ignored field (R123) -/

/-- The T word `kind << 24 | addr << 8 | data` (R121). -/
def tWord (kind : BitVec 3) (addr : BitVec 16) (data : Byte) : OpWord := .t (kind ++ addr ++ data)

/-- The T word of an I/O transaction: the port is the low byte of `addr` (R123). -/
def ioWord (kind : BitVec 3) (port : Port) (data : Byte) : OpWord := tWord kind (0#8 ++ port) data

/-- The LK word `code << 8 | data` (R127). -/
def lkWord (code : BitVec 4) (data : Byte) : OpWord := .lk (code ++ data)

/-- The LK word of a signal-set operation (R127). -/
def lkBitWord (code : BitVec 4) (b : Bool) : OpWord := lkWord code (0#7 ++ BitVec.ofBool b)

/-- The IQ word, bit 3 zero (R129). -/
def iqWord (op : BitVec 2) (level : BitVec 3) : OpWord := .iq (op ++ 0#1 ++ level)

/-- The canonical word of an operation. -/
def encode (c : Codes) : Instr → OpWord
  | .mrd a => tWord 0#3 a 0#8
  | .mwr a v => tWord 1#3 a v
  | .inta a => tWord 2#3 a 0#8
  | .inp p => ioWord 3#3 p 0#8
  | .out p v => ioWord 4#3 p v
  | .tick n => tWord 5#3 n 0#8
  | .reset => tWord 6#3 0#16 0#8
  | .gppWr v => ioWord 4#3 c.gppPort v
  | .gppRd => ioWord 3#3 c.gppPort 0#8
  | .z47Stat => ioWord 3#3 c.z47PortBase 0#8
  | .z47Cmd v => ioWord 4#3 c.z47PortBase v
  | .z47Din => ioWord 3#3 c.z47DataPort 0#8
  | .z47Dout v => ioWord 4#3 c.z47DataPort v
  | .sendHost v => lkWord 0#4 v
  | .sendDrive v => lkWord 1#4 v
  | .readByHost => lkWord 2#4 0#8
  | .readByDrive => lkWord 3#4 0#8
  | .setBusy b => lkBitWord 4#4 b
  | .setDtr b => lkBitWord 5#4 b
  | .setDdout b => lkBitWord 6#4 b
  | .setError b => lkBitWord 7#4 b
  | .setMr b => lkBitWord 8#4 b
  | .setDtak b => lkBitWord 9#4 b
  | .raiseInt l => iqWord 0#2 l
  | .lowerInt l => iqWord 1#2 l
  | .raiseNmi => iqWord 2#2 0#3
  | .z47Rsb => .zc cmdRsb
  | .z47Wsb => .zc c.cmdWsb
  | .z47Rcs => .zc c.cmdRcs
  | .z47Invalid b => .zc b

/-! ### Words of the opcode table -/

/-- The interface word that an opcode-table word of `nbits` bits stands for. T rows have more than 16 bits, LK rows more
than 8, IQ rows 6 and ZC rows 8. The interface is not in the bits (R141), so a word of 8 bits is read as the ZC word of a
named command where it is one, as an IQ word where it is an operation of that format, and as a ZC word otherwise
(log entry 9). -/
def tableWord (nbits w : Nat) : OpWord :=
  if nbits ≤ 6 then .iq (BitVec.ofNat 6 w)
  else if nbits ≤ 8 then
    if (Codes.table.noCommand (BitVec.ofNat 8 w) && decide (w < 0x30)) = true then .iq (BitVec.ofNat 6 w)
    else .zc (BitVec.ofNat 8 w)
  else if nbits ≤ 16 then .lk (BitVec.ofNat 12 w)
  else .t (BitVec.ofNat 27 w)

/-- The instruction the decoder reads from an opcode-table word, under the table's own parameter values (R126). -/
def decodeTableWord (nbits w : Nat) : Option Instr :=
  match decode Codes.table (tableWord nbits w) with
  | .ok i => some i
  | .error _ => none

end Sys2Proof
end

