-- ==== Sys2Proof/Machine/State.lean ====
section
/-! DEFINITION. The state of the block, as plain data: everything 10_state.md lists, the configuration of R8 and R54 among
it, and four fields of the model's own (the operation queue, the byte returned, the calls to the CPU, the count of free
bytes read). -/

namespace Sys2Proof.Machine

/-- Bytes by place, addresses strictly rising, none equal to what an unlisted place reads as. The places of `State.mem` are
`page * 8192 + offset`; those of a drive image are image offsets. -/
abbrev Memory := List Host.Cell

/-- What an unlisted place reads as. DESIGN CHOICE, unsafe: the spec gives a RAM byte any value at power-on and makes the
images configuration (R58, R62, D17). Log entry 7. -/
abbrev unlistedByte : Byte := 0x00#8

/-- The memory decoder (R34, R35). -/
structure Decoder where
  gppBits : Byte
  curBank : Nat
  lockState : Nat
deriving DecidableEq, Repr

/-- The parallel link: its data path (R39) and its six signal shadows (R40). -/
structure Link where
  data : Byte
  dataFromHost : Bool
  dataFromDrive : Bool
  busy : Bool
  dtr : Bool
  masterReset : Bool
  ddOut : Bool
  dtak : Bool
  error : Bool
deriving DecidableEq, Repr

/-- The Z47 host interface card (R42). -/
structure Hif where
  ie : Bool
  mr : Bool
  u137b : Bool
  irq : Bool
deriving DecidableEq, Repr

/-- `Z47.linkState` (R43). -/
inductive LinkState where
  | ready
  | awaitingToReqReceive
  | awaitingToReceive
  | awaitingToTransmit
  | awaitingTransmitComplete
  | holdingDTR
  | awaitingReadyState
deriving DecidableEq, Repr

/-- `Z47.ctrlState` (R44). -/
inductive CtrlState where
  | none
  | readSectorsBuffered
  | writeSectorsBuffered
  | readControllerStatus
  | invalidCommand
deriving DecidableEq, Repr

/-- The eight error latches `Z47.err`, in the source's order (R50). -/
structure ErrorLatches where
  driveNotReady : Bool
  diskWriteProtected : Bool
  deletedData : Bool
  noRecordFound : Bool
  crcError : Bool
  lateData : Bool
  invalidCommandReceived : Bool
  badTrackOverflow : Bool
deriving DecidableEq, Repr

/-- No latch set. -/
def ErrorLatches.clear : ErrorLatches := ⟨false, false, false, false, false, false, false, false⟩

/-- The Z47 controller (R43 to R51). -/
structure Z47 where
  linkState : LinkState
  ctrlState : CtrlState
  countDown : Nat
  statePosition : Nat
  side : Bool
  drive : BitVec 2
  track : Byte
  sector : BitVec 5
  offset : Nat
  bytesToTransfer : Nat
  sectorCount : Nat
  txByte : Byte
  rxByte : Byte
  rxPending : Bool
  err : ErrorLatches
  readyChanged0 : Bool
  readyChanged1 : Bool
deriving DecidableEq, Repr

/-- The controller as power-on and a master reset leave it (R61, R350). -/
def Z47.initial : Z47 where
  linkState := .awaitingToReceive
  ctrlState := .none
  countDown := 0
  statePosition := 0
  side := false
  drive := 0#2
  track := 0#8
  sector := 0#5
  offset := 0
  bytesToTransfer := 0
  sectorCount := 1
  txByte := 0x00#8
  rxByte := 0x00#8
  rxPending := false
  err := ErrorLatches.clear
  readyChanged0 := true
  readyChanged1 := true

/-- A sender on the parallel link, as log entries name it (R260, R261, R402). -/
inductive Side where
  | host | drive
deriving DecidableEq, Repr

/-- An end of the parallel link that a peer registers at, as log entries name it (R272, R273). -/
inductive LinkEnd where
  | host | device
deriving DecidableEq, Repr

/-- An entry of `LOG`: its kind and its info (R53, R402). -/
inductive LogEntry where
  | layoutIndexRange (index : Nat)
  | portConflict (dev : Device) (base : Port) (count : Nat)
  | linkContention (sender : Side)
  | doubleRegistration (linkEnd : LinkEnd)
  | intLevelRange (level : Nat)
deriving DecidableEq, Repr

/-- A call out to the external CPU (R13). -/
inductive CpuCall where
  | raiseInt (level : Nat)
  | lowerInt (level : Nat)
  | raiseNmi
deriving DecidableEq, Repr

/-- The whole state. `cfg` is what R54 calls configuration, and no operation writes it. `returned`, `cpu`, `draws` and `ops`
are the model's own (log entries 1, 3 and 6). -/
structure State where
  cfg : Config
  mem : Memory
  dec : Decoder
  gpp : Byte
  pending : Byte
  link : Link
  hif : Hif
  z47 : Z47
  media : List Memory
  log : List LogEntry
  cpu : List CpuCall
  returned : Option Byte
  draws : Nat
  ops : List OpWord
deriving DecidableEq, Repr

/-- How the machine stops with a fault: it never does. "No operation of the block raises a synchronous exception, traps,
records a faulting address or stops the machine" (R400), so the type has no constructor. -/
inductive Fault where
deriving DecidableEq, Repr

/-- Why the machine refuses to run. Each is safe: the model stops where a word or a system has no meaning. -/
inductive Refusal where
  /-- Raised by `exec` for an instruction without a meaning yet; safe. -/
  | notModelled (mnemonic : String)
  /-- Raised by `step` for a word that spells no operation (R124, R127, R129, R142); safe: no state changes. -/
  | reservedWord (why : DecodeError)
  /-- Raised by `step` and by power-on for a configuration that breaks R9 (P15); safe. -/
  | badConfiguration
  /-- Raised by a build-time call, and by a second power-on, of a system that runs (R434, P16); safe. -/
  | buildAfterPowerOn
deriving DecidableEq, Repr

/-- The state with the bytes of the pages replaced. -/
def State.setMem (s : State) (x : Memory) : State := { s with mem := x }

/-- The state with the memory decoder replaced. -/
def State.setDec (s : State) (x : Decoder) : State := { s with dec := x }

/-- The state with `GPP.latch` replaced. -/
def State.setGpp (s : State) (x : Byte) : State := { s with gpp := x }

/-- The state with `INTC.pending` replaced. -/
def State.setPending (s : State) (x : Byte) : State := { s with pending := x }

/-- The state with the parallel link replaced. -/
def State.setLink (s : State) (x : Link) : State := { s with link := x }

/-- The state with the host interface replaced. -/
def State.setHif (s : State) (x : Hif) : State := { s with hif := x }

/-- The state with the Z47 controller replaced. -/
def State.setZ47 (s : State) (x : Z47) : State := { s with z47 := x }

/-- The state with the drive images replaced. -/
def State.setMedia (s : State) (x : List Memory) : State := { s with media := x }

/-- The state with `LOG` replaced. -/
def State.setLog (s : State) (x : List LogEntry) : State := { s with log := x }

/-- The state with the calls to the CPU replaced. -/
def State.setCpu (s : State) (x : List CpuCall) : State := { s with cpu := x }

/-- The state with the byte returned replaced. -/
def State.setReturned (s : State) (x : Option Byte) : State := { s with returned := x }

/-- The state with the count of free bytes replaced. -/
def State.setDraws (s : State) (x : Nat) : State := { s with draws := x }

/-- The state with the operation queue replaced. -/
def State.setOps (s : State) (x : List OpWord) : State := { s with ops := x }

/-- The block right after power-on (R58 to R62, R430) in the reference H89 configuration (log entry 4), with every ROM,
RAM and image byte 0x00 (log entry 7) and no operation issued yet (log entry 1). -/
def State.reset : State where
  cfg := Config.reference .h89
  mem := []
  dec := ⟨0x20#8, 0, 0⟩
  gpp := 0x00#8
  pending := 0x00#8
  link := ⟨0x00#8, false, false, false, true, false, false, false, false⟩
  hif := ⟨false, false, false, false⟩
  z47 := Z47.initial
  media := [[], []]
  log := []
  cpu := []
  returned := none
  draws := 0
  ops := []

end Sys2Proof.Machine
end

