-- ==== Sys2Proof/Machine/Operands.lean ====
section
/-! DEFINITION. Every operand form of the block: address slicing, bit gathering, port offsets, the SDS byte and the image
offset (46_arithmetic_and_control.md, 30_encoding.md). -/

namespace Sys2Proof.Machine

/-! ### Memory addresses -/

/-- `a[15:13]`, the slot number (R81). -/
def slotOf (a : Addr) : BitVec 3 := a.extractLsb' 13 3

/-- `a[12:0]`, the page offset (R81). -/
def offsetOf (a : Addr) : PageOffset := a.extractLsb' 0 13

/-- `off[12:10]`, the 1 KiB sub-block that governs a WUR access (R87). -/
def subBlock (off : PageOffset) : BitVec 3 := off.extractLsb' 10 3

/-- Bit `k` of a WUR mask (R32). -/
def maskBit (m : Byte) (k : BitVec 3) : Bool := m.getLsbD k.toNat

/-- Where byte `off` of page `p` stands in `State.mem`. -/
def pageKey (p : Nat) (off : PageOffset) : Nat := p * pageSize + off.toNat

/-! ### Bank numbers -/

/-- The bits of `v` at those of the positions where `m` is 1, the first position lowest. -/
def gatherBits (v m : Byte) : List Nat → Nat
  | [] => 0
  | i :: is => if m.getLsbD i then (v.getLsbD i).toNat + 2 * gatherBits v m is else gatherBits v m is

/-- `pext(v, m)` (R11). -/
def pext (v m : Byte) : Nat := gatherBits v m [0, 1, 2, 3, 4, 5, 6, 7]

/-- `popcount(m)` (R10). -/
def popcount (m : Byte) : Nat := ([0, 1, 2, 3, 4, 5, 6, 7].filter fun i => m.getLsbD i).length

/-! ### Interrupt levels -/

/-- The mask of level `l` in `INTC.pending` (R38). -/
def levelBit (l : Nat) : Byte := 1#8 <<< l

/-- The index of the highest 1 bit of `p`, looking at the positions given, highest first; none where all are 0. -/
def highestOf (p : Byte) : List Nat → Option Nat
  | [] => none
  | i :: is => if p.getLsbD i then some i else highestOf p is

/-- `INTA_VECTOR_ref` (R245): `0xC7 | (n << 3)` for the highest pending level `n`, the floating value for none. -/
def intaReference (p : Byte) : Byte :=
  match highestOf p [7, 6, 5, 4, 3, 2, 1, 0] with
  | none => ioFloat
  | some n => 0xC7#8 ||| (BitVec.ofNat 8 n <<< 3)

/-- `INTA_VECTOR(P)` of a configuration (R245). A table that is too short floats (log entry 26). -/
def intaByte : IntaVector → Byte → Byte
  | .reference, p => intaReference p
  | .table bytes, p => bytes.getD p.toNat ioFloat

/-! ### Z47 parameters -/

/-- `(val & SIDE_MASK) >> 7` (R132). -/
def sdsSide (v : Byte) : Bool := v.getLsbD 7

/-- `(val & DRIVE_MASK) >> 5` (R132). -/
def sdsDrive (v : Byte) : BitVec 2 := v.extractLsb' 5 2

/-- `val & SECTOR_MASK` (R132). -/
def sdsSector (v : Byte) : BitVec 5 := v.extractLsb' 0 5

/-- The image offset of the first byte of a transfer (R133). It is used only for sectors of 1 or more (R381). -/
def imageOffset (track sector : Nat) : Nat := track * (sectorSize * sectorsPerTrack) + (sector - 1) * sectorSize

end Sys2Proof.Machine
end

