-- ==== Sys2Proof/Machine/Configure.lean ====
section
/-! DEFINITION. What a configuration says: its number of banks, the page in a slot, the owner of a port, the order of the
reset broadcast, and the constraints of R9. -/

namespace Sys2Proof

/-- `N_BANKS` (R7). -/
def Config.nBanks (c : Config) : Nat :=
  match c.variant with
  | .h88 => 1
  | .h89 => 2
  | .mms77318 => 8

/-- `MMS_PRE_MASK = H89_ORG0_MASK` (R8, D9). -/
def Config.mmsPreMask (c : Config) : Byte := c.h89Org0Mask

/-- Page `p` of the arena. Index 0, and any index the arena does not hold, is the Nil page (R30, R33; log entry 15). -/
def Config.page (c : Config) : Nat → Page
  | 0 => ⟨.nil, 0#3⟩
  | p + 1 => c.pages.getD p ⟨.nil, 0#3⟩

/-- `PG[p].kind` (R30). -/
def Config.kind (c : Config) (p : Nat) : PageKind := (c.page p).kind

/-- `LAY[b][s]`; a slot never given a page holds `NILPAGE` (R33, R170). -/
def Config.layoutPage (c : Config) (b : Nat) (s : BitVec 3) : Nat := (c.layouts.getD b []).getD s.toNat nilPage

/-- The eight slots of a layout given as a list: a slot that the list does not reach holds `NILPAGE`, and what stands past the
eighth slot is no part of a layout (log entry 27). -/
def eightSlots (layout : List Nat) : List Nat := [0, 1, 2, 3, 4, 5, 6, 7].map fun s => layout.getD s nilPage

/-- `LAY` whole: `N_BANKS` layouts of eight slots each (R33). -/
def Config.banks (c : Config) : List (List Nat) := (List.range c.nBanks).map fun b => eightSlots (c.layouts.getD b [])

/-- The claim covers port `q`. -/
def Claim.covers (k : Claim) (q : Port) : Bool := decide (k.base.toNat ≤ q.toNat) && decide (q.toNat < k.base.toNat + k.count)

/-- `IOB.port[q]` and `IOB.base[q]`: the claim that owns the port, if one does (R37). -/
def Config.owner (c : Config) (q : Port) : Option Claim := c.claims.find? (·.covers q)

/-- The claim put into a list in the order of the lowest port. -/
def Claim.insert (k : Claim) : List Claim → List Claim
  | [] => [k]
  | j :: js => if k.base.toNat ≤ j.base.toNat then k :: j :: js else j :: Claim.insert k js

/-- Claims in ascending order of their lowest port. -/
def Claim.sort : List Claim → List Claim
  | [] => []
  | k :: ks => Claim.insert k (Claim.sort ks)

/-- The devices of a list of claims, each once, where it first stands. `seen` holds those already taken. -/
def Claim.devicesOnce (seen : List Device) : List Claim → List Device
  | [] => []
  | k :: ks => if k.dev ∈ seen then Claim.devicesOnce seen ks else k.dev :: Claim.devicesOnce (k.dev :: seen) ks

/-- Each distinct device that claims a port, once, in ascending order of the lowest port it claims (R166, R167). -/
def Config.resetOrder (c : Config) : List Device := Claim.devicesOnce [] (Claim.sort c.claims)

/-- `DEC.gppBits` after a decoder reset (R213). -/
def Config.gppBitsAtReset (c : Config) : Byte :=
  match c.variant with
  | .h88 => 0x00#8
  | .h89 => c.h89Org0Mask
  | .mms77318 => c.mmsUnlockMask ||| c.mmsPreMask

/-- `NUM_DRIVES` (R8). -/
def Config.numDrives (c : Config) : Nat := c.drives.length

/-- `DRIVE_PRESENT[d]` (R8); a drive the controller does not serve is not present. -/
def Config.drivePresent (c : Config) (d : BitVec 2) : Bool := (c.drives.getD d.toNat ⟨false, false⟩).present

/-- `WRITE_PROTECT[d]` (R8). -/
def Config.driveProtected (c : Config) (d : BitVec 2) : Bool := (c.drives.getD d.toNat ⟨false, false⟩).writeProtect

/-! ### The constraints of R9 -/

/-- The bank-select masks the variant uses (R9 (a)). -/
def Config.bankMasks (c : Config) : List Byte :=
  match c.variant with
  | .h88 => []
  | .h89 => [c.h89Org0Mask]
  | .mms77318 => [c.mmsPreMask, c.mmsBankMask]

/-- R9 (a): `2^popcount(s) <= N_BANKS` for every bank-select mask in use. -/
def Config.masksFit (c : Config) : Bool := c.bankMasks.all fun m => decide (2 ^ Machine.popcount m ≤ c.nBanks)

/-- R9 (b): `MMS_BANK_MASK` has exactly three bits, none of them an unlock bit. -/
def Config.bankMaskOk (c : Config) : Bool := decide (Machine.popcount c.mmsBankMask = 3) && c.mmsBankMask &&& c.mmsUnlockMask == 0#8

/-- The shadow of a write-under-ROM page is a RAM page. -/
def Config.shadowOk (c : Config) (p : Page) : Bool :=
  match p.kind with
  | .wur _ _ shadow => decide (c.kind shadow = .ram)
  | _ => true

/-- R9 (c). -/
def Config.shadowsOk (c : Config) : Bool := c.pages.all c.shadowOk

/-- R9 (e). -/
def Config.levelOk (c : Config) : Bool := decide (c.z47IntLevel < c.intLevels.val)

/-- R9 (a) to (f): "A model must refuse a configuration that breaks one". -/
def Config.ok (c : Config) : Bool :=
  c.masksFit && c.bankMaskOk && c.shadowsOk && c.codes.ok && c.levelOk

/-- The port claims and registrations of R434 steps 3 to 5: the GPP at `GPP_PORT`, the host interface at the two ports from
`Z47_PORT_BASE`, the two peers on the link, the controller a clock user. -/
def Config.wired (c : Config) : Bool :=
  decide (c.owner c.codes.gppPort = some ⟨.gpp, c.codes.gppPort, 1⟩) &&
  decide (c.owner c.codes.z47PortBase = some ⟨.hif, c.codes.z47PortBase, 2⟩) &&
  decide (c.owner c.codes.z47DataPort = some ⟨.hif, c.codes.z47PortBase, 2⟩) &&
  decide (c.host = some .card) && decide (c.device = some .controller) && c.clocked

end Sys2Proof
end

