-- ==== Sys2Proof/Machine/Flags.lean ====
section
/-! DEFINITION. The status bits of the block (R57), which has no condition codes: the status byte of the host interface, the
card's interrupt request, the controller-status byte, and the error latches behind it. -/

namespace Sys2Proof.Machine

/-- One bit in place `n` of a byte. -/
def bitAt (b : Bool) (n : Nat) : Byte := if b then 1#8 <<< n else 0#8

/-- The host-interface status byte (R135, R290): DTR on bit 7, IE on 6, not Busy on 5, Error on 0, bits 4:1 zero. -/
def statusByte (h : Hif) (l : Link) : Byte :=
  bitAt l.dtr 7 ||| bitAt h.ie 6 ||| bitAt (!l.busy) 5 ||| bitAt l.error 0

/-- The card's interrupt request (R297): enabled, and a byte transfer is requested or the controller is done. -/
def irqWanted (h : Hif) (l : Link) : Bool := h.ie && (l.dtr || !l.busy)

/-- Some error latch is set (R332). -/
def ErrorLatches.any (e : ErrorLatches) : Bool :=
  e.driveNotReady || e.diskWriteProtected || e.deletedData || e.noRecordFound || e.crcError || e.lateData ||
    e.invalidCommandReceived || e.badTrackOverflow

/-- The controller-status byte: each latch on its own bit (R138, R343). -/
def ErrorLatches.statusByte (b : StatusBits) (e : ErrorLatches) : Byte :=
  bitAt e.driveNotReady b.driveNotReady.toNat ||| bitAt e.diskWriteProtected b.diskWriteProtected.toNat |||
    bitAt e.deletedData b.deletedData.toNat ||| bitAt e.noRecordFound b.noRecordFound.toNat |||
    bitAt e.crcError b.crcError.toNat ||| bitAt e.lateData b.lateData.toNat |||
    bitAt e.invalidCommandReceived b.invalidCommandReceived.toNat ||| bitAt e.badTrackOverflow b.badTrackOverflow.toNat

end Sys2Proof.Machine
end

