-- ==== Sys2Proof/Machine/Ops.lean ====
section
/-! DEFINITION. The shared operations over memory, the interrupt controller, the link and the host interface's request, and
how an operation ends. The block takes no exception and returns from none (R400, R407, R409), so there is no operation for
either here: what stands in their place is `raiseInt` and `lowerInt` (the call to the CPU), the error latches and the log. -/

namespace Sys2Proof.Machine

/-! ### How an operation ends -/

/-- The operation returns no byte. -/
def done (s : State) : Host.Outcome State Fault Refusal := .next (s.setReturned none)

/-- The operation returns the byte. -/
def answer (r : Byte × State) : Host.Outcome State Fault Refusal := .next (r.2.setReturned (some r.1))

/-! ### Memory -/

/-- The byte at place `a`. -/
def Memory.read : Memory → Nat → Byte
  | [], _ => unlistedByte
  | (b, v) :: m, a => if a = b then v else Memory.read m a

/-- Memory with `v` at place `a`, in canonical form: the entry goes where it was or where it belongs, and an entry that reads
as an unlisted place is left out. -/
def Memory.write : Memory → Nat → Byte → Memory
  | [], a, v => if v = unlistedByte then [] else [(a, v)]
  | (b, w) :: m, a, v =>
    if a < b then (if v = unlistedByte then (b, w) :: m else (a, v) :: (b, w) :: m)
    else if a = b then (if v = unlistedByte then m else (a, v) :: m)
    else (b, w) :: Memory.write m a v

/-- The canonical form of a memory: addresses strictly rising, no entry equal to what an unlisted place reads as. -/
def Memory.wf : Memory → Bool
  | [] => true
  | (a, v) :: m => v != unlistedByte && (m.all fun c => decide (a < c.1)) && Memory.wf m

/-- Byte `off` of page `p`: `PG[p].data[off]` (R31). -/
def State.pageByte (s : State) (p : Nat) (off : PageOffset) : Byte := s.mem.read (pageKey p off)

/-- `PG[p].data[off] <- v` (R31). -/
def State.putPageByte (s : State) (p : Nat) (off : PageOffset) (v : Byte) : State :=
  s.setMem (s.mem.write (pageKey p off) v)

/-- `Resolve(a)` (R91). -/
def resolve (s : State) (a : Addr) : Nat := s.cfg.layoutPage s.dec.curBank (slotOf a)

/-- `PageRead(p, off)` (R85, R88). -/
def pageRead (s : State) (p : Nat) (off : PageOffset) : Byte :=
  match s.cfg.kind p with
  | .ram => s.pageByte p off
  | .rom => s.pageByte p off
  | .nil => nilRead
  | .wur _ maskInstalled _ =>
    if maskBit maskInstalled (subBlock off) then s.pageByte p off else s.cfg.wurUninstalledRead

/-- The write passed through to a shadow page, which is a RAM page (R9 (c), R89). A configuration whose shadow is no RAM page is
refused (R9), and takes nothing here (log entry 13). -/
def shadowWrite (p : Nat) (off : PageOffset) (v : Byte) (s : State) : State :=
  match s.cfg.kind p with
  | .ram => s.putPageByte p off v
  | _ => s

/-- `WurWrite(p, off, v)` (R89). -/
def wurWrite (maskRO maskInstalled : Byte) (shadow p : Nat) (off : PageOffset) (v : Byte) (s : State) : State :=
  let k := subBlock off
  shadowWrite shadow off v (if maskBit maskInstalled k && !maskBit maskRO k then s.putPageByte p off v else s)

/-- `PageWrite(p, off, v)` (R86). -/
def pageWrite (p : Nat) (off : PageOffset) (v : Byte) (s : State) : State :=
  match s.cfg.kind p with
  | .ram => s.putPageByte p off v
  | .rom => s
  | .nil => s
  | .wur maskRO maskInstalled shadow => wurWrite maskRO maskInstalled shadow p off v s

/-- `MEDIA[d].image[o]` (R52). -/
def imageByte (s : State) (d : BitVec 2) (o : Nat) : Byte := (s.media.getD d.toNat []).read o

/-- `MEDIA[d].image[o] <- v` (R52, R341). -/
def putImageByte (d : BitVec 2) (o : Nat) (v : Byte) (s : State) : State :=
  s.setMedia (s.media.modify d.toNat fun m => m.write o v)

/-! ### The log and the calls to the CPU -/

/-- The code of a log entry's kind (R402). -/
def LogEntry.code : LogEntry → Nat
  | .layoutIndexRange _ => 1
  | .portConflict _ _ _ => 2
  | .linkContention _ => 3
  | .doubleRegistration _ => 4
  | .intLevelRange _ => 5

/-- `log(kind, info)` (R13, R53). -/
def State.logged (s : State) (e : LogEntry) : State := s.setLog (s.log ++ [e])

/-- A call to the external CPU (R13). -/
def State.called (s : State) (c : CpuCall) : State := s.setCpu (s.cpu ++ [c])

/-! ### Interrupt controller -/

/-- RAISE_INT(l) (R240, R243). -/
def raiseInt (l : Nat) (s : State) : State :=
  if s.cfg.intLevels.val ≤ l then s.logged (.intLevelRange l)
  else (s.setPending (s.pending ||| levelBit l)).called (.raiseInt l)

/-- LOWER_INT(l) (R241, R243). -/
def lowerInt (l : Nat) (s : State) : State :=
  if s.cfg.intLevels.val ≤ l then s.logged (.intLevelRange l)
  else (s.setPending (s.pending &&& ~~~levelBit l)).called (.lowerInt l)

/-- RAISE_NMI (R242). -/
def raiseNmi (s : State) : State := s.called .raiseNmi

/-- `IntcReset()` (R247). -/
def intcReset (s : State) : State := s.setPending 0x00#8

/-- The byte of an interrupt-acknowledge cycle (R162, R245). -/
def intaVector (s : State) : Byte := intaByte s.cfg.intaVector s.pending

/-! ### The data path of the link -/

/-- SEND_HOST(v) (R260). -/
def sendHost (v : Byte) (s : State) : State :=
  let s := if s.link.dataFromDrive then s.logged (.linkContention .host) else s
  s.setLink { s.link with data := v, dataFromHost := true, dataFromDrive := false }

/-- SEND_DRIVE(v) (R261). -/
def sendDrive (v : Byte) (s : State) : State :=
  let s := if s.link.dataFromHost then s.logged (.linkContention .drive) else s
  s.setLink { s.link with data := v, dataFromDrive := true, dataFromHost := false }

/-- READ_BY_HOST (R262). -/
def readByHost (s : State) : Byte × State :=
  (s.link.data, s.setLink { s.link with dataFromDrive := false })

/-- READ_BY_DRIVE (R263). -/
def readByDrive (s : State) : Byte × State :=
  (s.link.data, s.setLink { s.link with dataFromHost := false })

/-- `LinkReset` (R275). -/
def linkReset (s : State) : State := s.setLink ⟨0x00#8, false, false, false, false, false, false, false, false⟩

/-! ### The drive-owned signals and the host's handlers -/

/-- `RecomputeIRQ()` (R297). -/
def recomputeIrq (s : State) : State :=
  let want := irqWanted s.hif s.link
  if want = s.hif.irq then s
  else
    let s := s.setHif { s.hif with irq := want }
    if want then raiseInt s.cfg.z47IntLevel s else lowerInt s.cfg.z47IntLevel s

/-- The registered host hears a drive-owned signal: the card recomputes its request, whatever the signal and its level
(R295). A host outside the block is an external function, and no host means no call (R264; log entry 23). -/
def hostSignal (s : State) : State :=
  match s.cfg.host with
  | some .card => recomputeIrq s
  | some (.external _) => s
  | none => s

/-- SET_BUSY(b) (R264, R267). -/
def setBusy (b : Bool) (s : State) : State := hostSignal (s.setLink { s.link with busy := b })

/-- SET_DTR(b) (R264, R268). -/
def setDtr (b : Bool) (s : State) : State := hostSignal (s.setLink { s.link with dtr := b })

/-- SET_DDOUT(b) (R264, R269). -/
def setDdout (b : Bool) (s : State) : State := hostSignal (s.setLink { s.link with ddOut := b })

/-- SET_ERROR(b) (R264, R270). -/
def setError (b : Bool) (s : State) : State := hostSignal (s.setLink { s.link with error := b })

/-! ### Handlers outside the block -/

/-- A read of a port handler the block knows nothing of: the byte is free, and the block's own state is left alone (R163;
log entry 6). -/
def externalRead (s : State) : Byte × State := (Config.externalByte s.draws, s.setDraws (s.draws + 1))

end Sys2Proof.Machine
end

