-- ==== Sys2Proof/Machine/Bank.lean ====
section
/-! DEFINITION. The GPP latch and the memory decoder's bank switching (41_bank_switching.md). -/

namespace Sys2Proof.Machine

/-- One step of the lock matcher (R205, R206): a match goes on, any mismatch restarts at step 1, not 0. -/
def lockStep (c : Config) (lockState : Nat) (v : Byte) : Nat :=
  if v &&& c.mmsUnlockMask = mmsUnlockSeq.getD lockState 0x00#8 then lockState + 1 else 1

/-- `DecoderNotify(v)` of the MMS77318 (R205 to R208). -/
def notifyMms (c : Config) (v : Byte) (d : Decoder) : Decoder :=
  let d :=
    if d.lockState < unlocked then
      let l := lockStep c d.lockState v
      { d with lockState := l, gppBits := if l = unlocked then c.mmsBankMask else d.gppBits }
    else d
  { d with curBank := if d.lockState = unlocked then pext v c.mmsBankMask else pext v c.mmsPreMask }

/-- `DecoderNotify(v)`: one call for each OUT to `GPP_PORT`, by variant (R201, R203, R204, R205). -/
def decoderNotify (v : Byte) (s : State) : State :=
  match s.cfg.variant with
  | .h88 => s.setDec { s.dec with curBank := 0 }
  | .h89 => s.setDec { s.dec with curBank := pext v s.dec.gppBits }
  | .mms77318 => s.setDec (notifyMms s.cfg v s.dec)

/-- `GPP.out(0, v)` (R200). -/
def gppOut (v : Byte) (s : State) : State := decoderNotify v (s.setGpp v)

/-- `GPP.in(0)` (R212): a configured byte, not the latch. -/
def gppIn (s : State) : Byte := s.cfg.gppInValue

/-- `DecoderReset()` (R213). -/
def decoderReset (s : State) : State := s.setDec ⟨s.cfg.gppBitsAtReset, 0, 0⟩

/-- `GPP.reset()` (R214): the latch, with no notification. -/
def gppReset (s : State) : State := s.setGpp 0x00#8

end Sys2Proof.Machine
end

