-- ==== Sys2Proof/Machine/Controller.lean ====
section
/-! DEFINITION. The Z47 controller: the command handlers, the controller dispatch, the link step, the clock notification, the
acknowledge handler and the master reset (45_z47_controller.md). -/

namespace Sys2Proof.Machine

/-- What a command handler asks for (R330). -/
inductive Action where
  | req
  | tx (b : Byte)
  | stay
  | complete
deriving DecidableEq, Repr

/-- The direction of a transfer, as `CheckParams` is told it (R342). -/
inductive Direction where
  | read | write
deriving DecidableEq, Repr

/-! ### The end of a command -/

/-- `commandComplete()` (R332): Error rises, where a latch is set, before Busy falls. -/
def commandComplete (s : State) : State :=
  let s := s.setZ47 { s.z47 with ctrlState := .none, statePosition := 0, linkState := .awaitingReadyState }
  let s := if s.z47.err.any then setError true s else s
  let s := setBusy false s
  s.setZ47 { s.z47 with countDown := settleCycles }

/-- `ApplyAction` (R330). -/
def applyAction (r : State × Action) : State :=
  match r.2 with
  | .req => r.1.setZ47 { r.1.z47 with linkState := .awaitingToReqReceive }
  | .tx b => r.1.setZ47 { r.1.z47 with txByte := b, linkState := .awaitingToTransmit }
  | .stay => r.1
  | .complete => commandComplete r.1

/-! ### Command handlers -/

/-- The state with the error latches replaced (R331). -/
def State.setErr (s : State) (e : ErrorLatches) : State := s.setZ47 { s.z47 with err := e }

/-- `CheckParams(val, dir)` (R342): the checks in the rule's order, the first failure latched. -/
def checkParams (val : Byte) (dir : Direction) (s : State) : State × Bool :=
  let s := s.setZ47 { s.z47 with side := sdsSide val, drive := sdsDrive val, sector := sdsSector val }
  let z := s.z47
  if s.cfg.numDrives ≤ z.drive.toNat ∨ s.cfg.drivePresent z.drive = false then
    (s.setErr { z.err with driveNotReady := true }, false)
  else if tracks ≤ z.track.toNat ∨ z.sector.toNat < 1 ∨ sectorsPerTrack < z.sector.toNat then
    (s.setErr { z.err with noRecordFound := true }, false)
  else
    let s := s.setZ47 { z with
      offset := imageOffset z.track.toNat z.sector.toNat, bytesToTransfer := z.sectorCount * sectorSize }
    let z := s.z47
    if imageSize < z.offset + z.bytesToTransfer then
      (s.setErr { z.err with badTrackOverflow := true }, false)
    else if dir = .write ∧ s.cfg.driveProtected z.drive = true then
      (s.setErr { z.err with diskWriteProtected := true }, false)
    else (s, true)

/-- The image cursor moves on by one byte (R340, R341, R385). -/
def State.advanceTransfer (s : State) : State :=
  s.setZ47 { s.z47 with offset := s.z47.offset + 1, bytesToTransfer := s.z47.bytesToTransfer - 1 }

/-- `Handler(ReadSectorsBuffered, pos, val)` (R340). -/
def rsbHandler (pos : Nat) (val : Byte) (s : State) : State × Action :=
  if pos = 1 then (s, .req)
  else if pos = 2 then (s.setZ47 { s.z47 with track := val }, .req)
  else if pos = 3 then
    let r := checkParams val .read s
    (r.1, if r.2 then .stay else .complete)
  else if s.z47.bytesToTransfer = 0 then (s, .complete)
  else (s.advanceTransfer, .tx (imageByte s s.z47.drive s.z47.offset))

/-- `Handler(WriteSectorsBuffered, pos, val)` (R341). -/
def wsbHandler (pos : Nat) (val : Byte) (s : State) : State × Action :=
  if pos = 1 then (s, .req)
  else if pos = 2 then (s.setZ47 { s.z47 with track := val }, .req)
  else if pos = 3 then
    let r := checkParams val .write s
    (r.1, if r.2 then .req else .complete)
  else
    let s := (putImageByte s.z47.drive s.z47.offset val s).advanceTransfer
    (s, if s.z47.bytesToTransfer = 0 then .complete else .req)

/-- `Handler(ReadControllerStatus, pos, val)` (R343): the byte is a snapshot taken before the latches are cleared. -/
def rcsHandler (pos : Nat) (s : State) : State × Action :=
  if pos = 1 then
    (setError false (s.setErr ErrorLatches.clear), .tx (s.z47.err.statusByte s.cfg.statusBits))
  else (s, .complete)

/-- `Handler(InvalidCommand, pos, val)` (R344). -/
def invalidHandler (s : State) : State × Action :=
  (s.setErr { s.z47.err with invalidCommandReceived := true }, .complete)

/-- `Handler(state, pos, val)`. It is called only while a command runs (R328), so the None case is never reached. -/
def handler (c : CtrlState) (pos : Nat) (val : Byte) (s : State) : State × Action :=
  match c with
  | .none => (s, .stay)
  | .readSectorsBuffered => rsbHandler pos val s
  | .writeSectorsBuffered => wsbHandler pos val s
  | .readControllerStatus => rcsHandler pos s
  | .invalidCommand => invalidHandler s

/-! ### Controller dispatch -/

/-- `Decode(b)` (R333). -/
def commandOf (c : Codes) (b : Byte) : CtrlState :=
  if b = cmdRsb then .readSectorsBuffered
  else if b = c.cmdWsb then .writeSectorsBuffered
  else if b = c.cmdRcs then .readControllerStatus
  else .invalidCommand

/-- `StartCommand(b)` (R329). -/
def startCommand (b : Byte) (s : State) : State :=
  let s := s.setZ47 { s.z47 with rxPending := false }
  let s := setBusy true (setDtr false s)
  let s := s.setZ47 { s.z47 with ctrlState := commandOf s.cfg.codes b, statePosition := 1 }
  applyAction (handler s.z47.ctrlState 1 b s)

/-- The position a running command reaches next (R328). -/
def nextPosition (s : State) : State :=
  let s := s.setZ47 { s.z47 with rxPending := false, statePosition := s.z47.statePosition + 1 }
  applyAction (handler s.z47.ctrlState s.z47.statePosition s.z47.rxByte s)

/-- `ControllerDispatch()` (R328). -/
def controllerDispatch (s : State) : State :=
  if s.z47.ctrlState = .none then
    if s.z47.rxPending then startCommand s.z47.rxByte s
    else s.setZ47 { s.z47 with linkState := .awaitingToReqReceive }
  else nextPosition s

/-! ### The link step and the clock -/

/-- `LinkStep()` (R321). -/
def linkStep (s : State) : State :=
  match s.z47.linkState with
  | .ready => controllerDispatch s
  | .awaitingToReqReceive =>
    let s := setDtr true s
    s.setZ47 { s.z47 with linkState := .awaitingToReceive }
  | .awaitingToReceive => s
  | .awaitingToTransmit =>
    let s := setDtr true (setDdout true (sendDrive s.z47.txByte s))
    s.setZ47 { s.z47 with linkState := .awaitingTransmitComplete }
  | .awaitingTransmitComplete => s
  | .holdingDTR =>
    let s := setDtr false s
    s.setZ47 { s.z47 with linkState := .awaitingReadyState }
  | .awaitingReadyState =>
    let s := if s.link.ddOut then setDdout false s else s
    s.setZ47 { s.z47 with linkState := .ready }

/-- `notification(c)` (R320): cycles beyond the countdown are dropped, and the step runs once. -/
def notification (c : Nat) (s : State) : State :=
  if c < s.z47.countDown then s.setZ47 { s.z47 with countDown := s.z47.countDown - c }
  else linkStep (s.setZ47 { s.z47 with countDown := 0 })

/-! ### The signals the controller hears -/

/-- `MasterReset()` (R350): it runs in every controller state. DESIGN CHOICE, log entry 29: its four signal calls reach the registered
card, which recomputes its request (R264, R295, R297), although R432 and R433 list `HIF.irq` and `INTC.pending` as unchanged. -/
def masterReset (s : State) : State :=
  setDtr true (setError false (setDdout false (setBusy false (s.setZ47 Z47.initial))))

/-- `OnDtak()` (R326). -/
def onDtak (s : State) : State :=
  match s.z47.linkState with
  | .awaitingToReceive =>
    if s.link.dataFromHost then
      let r := readByDrive s
      let s := r.2.setZ47 { r.2.z47 with rxByte := r.1, rxPending := true }
      let s := setDtr false s
      s.setZ47 { s.z47 with linkState := .ready }
    else s
  | .awaitingTransmitComplete => s.setZ47 { s.z47 with linkState := .holdingDTR }
  | .ready => s
  | .awaitingToReqReceive => s
  | .awaitingToTransmit => s
  | .holdingDTR => s
  | .awaitingReadyState => s

/-- The registered device hears a host-owned signal: the controller acts on the raise only (R325). A device outside the block
is an external function, and no device means no call (R264; log entry 23). -/
def deviceSignal (level : Bool) (handle : State → State) (s : State) : State :=
  match s.cfg.device with
  | some .controller => if level then handle s else s
  | some (.external _) => s
  | none => s

/-- SET_MR(b) (R264, R271). -/
def setMr (b : Bool) (s : State) : State :=
  deviceSignal b masterReset (s.setLink { s.link with masterReset := b })

/-- SET_DTAK(b) (R264, R274). -/
def setDtak (b : Bool) (s : State) : State :=
  deviceSignal b onDtak (s.setLink { s.link with dtak := b })

end Sys2Proof.Machine
end

