-- ==== Sys2Proof/Machine/HostCard.lean ====
section
/-! DEFINITION. The Z47 host interface card: the handlers of its two ports and its reset (44_z47_host_interface.md). -/

namespace Sys2Proof.Machine

/-- `DtakPulse()` (R294). -/
def dtakPulse (s : State) : State := setDtak false (setDtak true s)

/-- `HIF.in(0)` (R290). -/
def cardStatus (s : State) : Byte := statusByte s.hif s.link

/-- The master-reset bit of a command byte: only a change is signalled (R291). -/
def cardMasterReset (b : Bool) (s : State) : State :=
  if b = s.hif.mr then s else setMr b (s.setHif { s.hif with mr := b })

/-- `HIF.out(0, v)` (R291). -/
def cardCommand (v : Byte) (s : State) : State :=
  recomputeIrq (cardMasterReset (v.getLsbD 1) (s.setHif { s.hif with ie := v.getLsbD 6, u137b := v.getLsbD 0 }))

/-- `HIF.in(1)` (R292). -/
def cardDataIn (s : State) : Byte × State :=
  let r := readByHost s
  (r.1, dtakPulse r.2)

/-- `HIF.out(1, v)` (R293): the host sends a byte over the link and acknowledges. -/
def cardDataOut (v : Byte) (s : State) : State := dtakPulse (sendHost v s)

/-- `HIF.reset()` (R296). -/
def cardReset (s : State) : State :=
  let s := s.setHif { s.hif with ie := false, u137b := false, mr := false }
  recomputeIrq (setDtak false (setMr false s))

/-- The card's power-on (R298): four registers 0, no calls. -/
def cardPowerOn (s : State) : State := s.setHif ⟨false, false, false, false⟩

end Sys2Proof.Machine
end

