-- ==== Sys2Proof/Machine/IoBus.lean ====
section
/-! DEFINITION. The I/O bus: dispatch of IN and OUT through the port table, and the reset broadcast
(40_bus_transactions.md). -/

namespace Sys2Proof.Machine

/-- A device's read handler at a port offset (R163). A handler outside the block, or at an offset the block's device does not
have, is an external function (log entries 6 and 14). -/
def deviceIn (d : Device) (off : Nat) (s : State) : Byte × State :=
  match d, off with
  | .gpp, 0 => (gppIn s, s)
  | .hif, 0 => (cardStatus s, s)
  | .hif, 1 => cardDataIn s
  | .gpp, _ + 1 => externalRead s
  | .hif, _ + 2 => externalRead s
  | .external _, _ => externalRead s

/-- A device's write handler at a port offset (R164). -/
def deviceOut (d : Device) (off : Nat) (v : Byte) (s : State) : State :=
  match d, off with
  | .gpp, 0 => gppOut v s
  | .hif, 0 => cardCommand v s
  | .hif, 1 => cardDataOut v s
  | .gpp, _ + 1 => s
  | .hif, _ + 2 => s
  | .external _, _ => s

/-- A device's reset (R166). -/
def deviceReset (d : Device) (s : State) : State :=
  match d with
  | .gpp => gppReset s
  | .hif => cardReset s
  | .external _ => s

/-- IN(port) (R163). -/
def ioIn (port : Port) (s : State) : Byte × State :=
  match s.cfg.owner port with
  | none => (ioFloat, s)
  | some k => deviceIn k.dev (port.toNat - k.base.toNat) s

/-- OUT(port, v) (R164). -/
def ioOut (port : Port) (v : Byte) (s : State) : State :=
  match s.cfg.owner port with
  | none => s
  | some k => deviceOut k.dev (port.toNat - k.base.toNat) v s

/-- The reset broadcast: every distinct device once, in ascending order of its lowest port (R166, R167). -/
def ioReset (s : State) : State := s.cfg.resetOrder.foldl (fun s d => deviceReset d s) s

end Sys2Proof.Machine
end

