-- ==== Sys2Proof/Machine/BusOps.lean ====
section
/-! DEFINITION. The meanings of the bus transactions MRD, MWR, INTA, IN, OUT, TICK and RESET (40_bus_transactions.md). -/

namespace Sys2Proof.Machine

/-- MRD (R160). -/
def execMrd (a : Addr) (s : State) : Host.Outcome State Fault Refusal :=
  answer (pageRead s (resolve s a) (offsetOf a), s)

/-- MWR (R161). -/
def execMwr (a : Addr) (v : Byte) (s : State) : Host.Outcome State Fault Refusal :=
  done (pageWrite (resolve s a) (offsetOf a) v s)

/-- INTA (R162): the address is carried and unread, no page is accessed, no state is written (R246). -/
def execInta (_a : Addr) (s : State) : Host.Outcome State Fault Refusal :=
  answer (intaVector s, s)

/-- IN (R163). -/
def execInp (port : Port) (s : State) : Host.Outcome State Fault Refusal :=
  answer (ioIn port s)

/-- OUT (R164). -/
def execOut (port : Port) (v : Byte) (s : State) : Host.Outcome State Fault Refusal :=
  done (ioOut port v s)

/-- TICK (R165): the only clock user in the block is the Z47 controller, where it is registered (R434; log entry 17). -/
def execTick (c : BitVec 16) (s : State) : Host.Outcome State Fault Refusal :=
  done (if s.cfg.clocked then notification c.toNat s else s)

/-- RESET (R166): the decoder, the devices, the interrupt controller. -/
def execReset (s : State) : Host.Outcome State Fault Refusal :=
  done (intcReset (ioReset (decoderReset s)))

end Sys2Proof.Machine
end

