-- ==== Sys2Proof/Machine/CommandOps.lean ====
section
/-! DEFINITION. The meanings of the Z47 command bytes of format ZC. A Z47 command is "a command byte the host sends over the
link" (R120 (d)), so the meaning of one is that the host sends the byte and acknowledges, as R293 says it sends any byte. The
controller takes it if it waits for one (R326), and its next Ready step starts the command it names (R328, R329, R333): from
there TICK runs the command's handler, position by position (`rsbHandler`, `wsbHandler`, `rcsHandler`, `invalidHandler`;
R340, R341, R343, R344). The controller acts nowhere else (R327). Log entry 8. -/

namespace Sys2Proof.Machine

/-- Z47_RSB (R340): the host sends `CMD_RSB`. -/
def execZ47Rsb (s : State) : Host.Outcome State Fault Refusal := done (cardDataOut cmdRsb s)

/-- Z47_WSB (R341): the host sends `CMD_WSB`. -/
def execZ47Wsb (s : State) : Host.Outcome State Fault Refusal := done (cardDataOut s.cfg.codes.cmdWsb s)

/-- Z47_RCS (R343): the host sends `CMD_RCS`. -/
def execZ47Rcs (s : State) : Host.Outcome State Fault Refusal := done (cardDataOut s.cfg.codes.cmdRcs s)

/-- Z47_INVALID (R344): the host sends another command byte. -/
def execZ47Invalid (b : Byte) (s : State) : Host.Outcome State Fault Refusal := done (cardDataOut b s)

end Sys2Proof.Machine
end

