-- ==== Sys2Proof/Machine/LineOps.lean ====
section
/-! DEFINITION. The meanings of the interrupt-line operations of format IQ (42_interrupt_arbiter.md). -/

namespace Sys2Proof.Machine

/-- RAISE_INT (R240). -/
def execRaiseInt (l : BitVec 3) (s : State) : Host.Outcome State Fault Refusal := done (raiseInt l.toNat s)

/-- LOWER_INT (R241). -/
def execLowerInt (l : BitVec 3) (s : State) : Host.Outcome State Fault Refusal := done (lowerInt l.toNat s)

/-- RAISE_NMI (R242). -/
def execRaiseNmi (s : State) : Host.Outcome State Fault Refusal := done (raiseNmi s)

end Sys2Proof.Machine
end

