-- ==== Sys2Proof/Machine/LinkOps.lean ====
section
/-! DEFINITION. The meanings of the link operations of format LK (43_parallel_link.md). -/

namespace Sys2Proof.Machine

/-- SEND_HOST (R260). -/
def execSendHost (v : Byte) (s : State) : Host.Outcome State Fault Refusal := done (sendHost v s)

/-- SEND_DRIVE (R261). -/
def execSendDrive (v : Byte) (s : State) : Host.Outcome State Fault Refusal := done (sendDrive v s)

/-- READ_BY_HOST (R262). -/
def execReadByHost (s : State) : Host.Outcome State Fault Refusal := answer (readByHost s)

/-- READ_BY_DRIVE (R263). -/
def execReadByDrive (s : State) : Host.Outcome State Fault Refusal := answer (readByDrive s)

/-- SET_BUSY (R267). -/
def execSetBusy (b : Bool) (s : State) : Host.Outcome State Fault Refusal := done (setBusy b s)

/-- SET_DTR (R268). -/
def execSetDtr (b : Bool) (s : State) : Host.Outcome State Fault Refusal := done (setDtr b s)

/-- SET_DDOUT (R269). -/
def execSetDdout (b : Bool) (s : State) : Host.Outcome State Fault Refusal := done (setDdout b s)

/-- SET_ERROR (R270). -/
def execSetError (b : Bool) (s : State) : Host.Outcome State Fault Refusal := done (setError b s)

/-- SET_MR (R271). -/
def execSetMr (b : Bool) (s : State) : Host.Outcome State Fault Refusal := done (setMr b s)

/-- SET_DTAK (R274). -/
def execSetDtak (b : Bool) (s : State) : Host.Outcome State Fault Refusal := done (setDtak b s)

end Sys2Proof.Machine
end

