-- ==== Sys2Proof/Machine/PortOps.lean ====
section
/-! DEFINITION. The meanings of the port views: each is an IN or an OUT at a port with a fixed role, and goes through the port
table like it (R125, R126; log entry 10). -/

namespace Sys2Proof.Machine

/-- GPP_WR (R200): OUT to `GPP_PORT`. -/
def execGppWr (v : Byte) (s : State) : Host.Outcome State Fault Refusal :=
  done (ioOut s.cfg.codes.gppPort v s)

/-- GPP_RD (R212): IN from `GPP_PORT`. -/
def execGppRd (s : State) : Host.Outcome State Fault Refusal :=
  answer (ioIn s.cfg.codes.gppPort s)

/-- Z47_STAT (R290): IN from `Z47_PORT_BASE`. -/
def execZ47Stat (s : State) : Host.Outcome State Fault Refusal :=
  answer (ioIn s.cfg.codes.z47PortBase s)

/-- Z47_CMD (R291): OUT to `Z47_PORT_BASE`. -/
def execZ47Cmd (v : Byte) (s : State) : Host.Outcome State Fault Refusal :=
  done (ioOut s.cfg.codes.z47PortBase v s)

/-- Z47_DIN (R292): IN from `Z47_PORT_BASE + 1`. -/
def execZ47Din (s : State) : Host.Outcome State Fault Refusal :=
  answer (ioIn s.cfg.codes.z47DataPort s)

/-- Z47_DOUT (R293): OUT to `Z47_PORT_BASE + 1`. -/
def execZ47Dout (v : Byte) (s : State) : Host.Outcome State Fault Refusal :=
  done (ioOut s.cfg.codes.z47DataPort v s)

end Sys2Proof.Machine
end

