-- ==== Sys2Proof/Machine/Dispatch.lean ====
section
/-! DEFINITION. One arm per operation: its meaning. -/

namespace Sys2Proof.Machine

def exec (i : Instr) (s : State) : Host.Outcome State Fault Refusal :=
  match i with
  | .mrd addr => Sys2Proof.Machine.execMrd addr s
  | .mwr addr data => Sys2Proof.Machine.execMwr addr data s
  | .inta addr => Sys2Proof.Machine.execInta addr s
  | .inp port => Sys2Proof.Machine.execInp port s
  | .out port data => Sys2Proof.Machine.execOut port data s
  | .tick cycleCount => Sys2Proof.Machine.execTick cycleCount s
  | .reset => Sys2Proof.Machine.execReset s
  | .gppWr data => Sys2Proof.Machine.execGppWr data s
  | .gppRd => Sys2Proof.Machine.execGppRd s
  | .z47Stat => Sys2Proof.Machine.execZ47Stat s
  | .z47Cmd data => Sys2Proof.Machine.execZ47Cmd data s
  | .z47Din => Sys2Proof.Machine.execZ47Din s
  | .z47Dout data => Sys2Proof.Machine.execZ47Dout data s
  | .sendHost data => Sys2Proof.Machine.execSendHost data s
  | .sendDrive data => Sys2Proof.Machine.execSendDrive data s
  | .readByHost => Sys2Proof.Machine.execReadByHost s
  | .readByDrive => Sys2Proof.Machine.execReadByDrive s
  | .setBusy b => Sys2Proof.Machine.execSetBusy b s
  | .setDtr b => Sys2Proof.Machine.execSetDtr b s
  | .setDdout b => Sys2Proof.Machine.execSetDdout b s
  | .setError b => Sys2Proof.Machine.execSetError b s
  | .setMr b => Sys2Proof.Machine.execSetMr b s
  | .setDtak b => Sys2Proof.Machine.execSetDtak b s
  | .raiseInt level => Sys2Proof.Machine.execRaiseInt level s
  | .lowerInt level => Sys2Proof.Machine.execLowerInt level s
  | .raiseNmi => Sys2Proof.Machine.execRaiseNmi s
  | .z47Rsb => Sys2Proof.Machine.execZ47Rsb s
  | .z47Wsb => Sys2Proof.Machine.execZ47Wsb s
  | .z47Rcs => Sys2Proof.Machine.execZ47Rcs s
  | .z47Invalid command => Sys2Proof.Machine.execZ47Invalid command s

end Sys2Proof.Machine
end

