-- ==== Sys2Proof/Machine/Fetch.lean ====
section
/-! DEFINITION. The next operation: the block runs no program of its own (R120) and has no program counter (R56), so it takes the
next operation that was issued to it, from the queue of the model (R445; log entry 1). -/

namespace Sys2Proof.Machine

/-- The next operation's word and the state without it; none where no operation has been issued. -/
def fetch (s : State) : Option (OpWord × State) :=
  match s.ops with
  | [] => none
  | w :: rest => some (w, s.setOps rest)

/-- Runs one word at the state: a reserved word is refused (R142). -/
def runWord (w : OpWord) (s : State) : Host.Outcome State Fault Refusal :=
  match decode s.cfg.codes w with
  | .ok i => exec i s
  | .error e => .refused (.reservedWord e)

/-- The state to which the word is issued as the very next operation. -/
def issue (w : OpWord) (s : State) : State := s.setOps (w :: s.ops)

end Sys2Proof.Machine
end

