-- ==== Sys2Proof/Machine/Step.lean ====
section
/-! DEFINITION. One step: one operation of the total order (R6, R445). -/

namespace Sys2Proof.Machine

/-- One step. A configuration that breaks R9 is refused. Where no operation has been issued nothing happens: the block never stops
by itself (R445; log entry 2). -/
def step (s : State) : Host.Outcome State Fault Refusal :=
  if s.cfg.ok then
    match fetch s with
    | none => .next s
    | some (w, t) => runWord w t
  else .refused .badConfiguration

/-- The state whose very next operation is the opcode-table word: the word is issued before any other. -/
def State.withFetchWord (s : State) (nbits w : Nat) : State := issue (tableWord nbits w) s

end Sys2Proof.Machine
end

