-- ==== Sys2Proof/Machine/Build.lean ====
section
/-! DEFINITION. The build-time configuration calls and power-on: they run before the first operation and have no encoding
(R120, R170 to R173, R272, R273, R430, R434). -/

namespace Sys2Proof.Machine

/-- A system under construction: the configuration so far, the bytes of its pages and images, and the entries its calls have
logged. Power-on starts `LOG` empty (R430 step 8; log entry 11). -/
structure Build where
  cfg : Config
  mem : Memory
  media : List Memory
  log : List LogEntry
deriving DecidableEq, Repr

/-- A build-time call (R434). `createPage` gives the bytes the environment has drawn or fills a page with, `loadRom` and
`loadDrive` those of an image file. -/
inductive BuildCall where
  /-- Step 1: a page with what fills it, the rest 0; it gets the next index of the arena. -/
  | createPage (page : Page) (bytes : List Byte)
  /-- A ROM image loaded into a page at an offset (R90). -/
  | loadRom (page offset : Nat) (image : List Byte)
  /-- The loaded image of a drive (R62, R140). -/
  | loadDrive (drive : Nat) (bytes : List Byte)
  /-- ADD_PAGE (R170). -/
  | addPage (bank page : Nat)
  /-- ADD_LAYOUT (R171). -/
  | addLayout (index : Nat) (layout : List Nat)
  /-- ADD_DEVICE (R172). -/
  | addDevice (dev : Device) (base : Port) (count : Nat)
  /-- REGISTER_HOST (R272). -/
  | registerHost (peer : HostPeer)
  /-- REGISTER_DEVICE (R273). -/
  | registerDevice (peer : DevicePeer)
  /-- Step 5: the Z47 controller becomes a clock user. -/
  | registerClock
deriving DecidableEq, Repr

/-- `log(kind, info)` while building. -/
def Build.logged (b : Build) (e : LogEntry) : Build := { b with log := b.log ++ [e] }

/-- Bytes written from a place on. -/
def Memory.load (m : Memory) (a : Nat) : List Byte → Memory
  | [] => m
  | v :: vs => Memory.load (m.write a v) (a + 1) vs

/-- Nothing built yet, under the parameters of `c`: no pages, eight `NILPAGE` slots in every bank, no claims, no peers (R171). -/
def Build.start (c : Config) : Build where
  cfg := { c with
    pages := [], layouts := List.replicate c.nBanks (List.replicate 8 nilPage), claims := [], host := none, device := none,
    clocked := false }
  mem := []
  media := List.replicate c.numDrives []
  log := []

/-- A new page of the arena with what fills it: at most the 8192 bytes a page owns, the rest 0 (log entry 28), and none for a Nil
page, which owns no storage (R30, R31). -/
def Build.createPage (page : Page) (bytes : List Byte) (b : Build) : Build :=
  let p := b.cfg.pages.length + 1
  { b with
    cfg := { b.cfg with pages := b.cfg.pages ++ [page] }
    mem := if page.kind = .nil then b.mem else b.mem.load (p * pageSize) (bytes.take pageSize) }

/-- The page takes a ROM image: it is ROM, or an overlay of write-under-ROM (R90). -/
def Build.takesRom (page : Nat) (b : Build) : Bool :=
  match b.cfg.kind page with
  | .rom => true
  | .ram => false
  | .nil => false
  | .wur _ _ _ => true

/-- A ROM image loaded into a page from an offset on, and whether it loads: "validated on load; any other size is a load failure"
(R7, R90). Where the image lies is the environment's to say (D16); one that the page does not take, or that does not fit in it,
fails in the same way (log entry 28). -/
def Build.loadRom (page offset : Nat) (image : List Byte) (b : Build) : Build × Bool :=
  if image.length ∈ romImageSizes ∧ b.takesRom page = true ∧ offset + image.length ≤ pageSize then
    ({ b with mem := b.mem.load (page * pageSize + offset) image }, true)
  else (b, false)

/-- A drive image, "loaded/truncated-and-zero-padded to exactly that size" (R140). One for a drive that the controller does not
serve is dropped (log entry 27). -/
def Build.loadDrive (d : Nat) (bytes : List Byte) (b : Build) : Build :=
  { b with media := b.media.set d (Memory.load [] 0 (bytes.take imageSize)) }

/-- ADD_PAGE(b, p): the slot is the one the page's base names (R170). DESIGN CHOICE, log entry 27: `LAY[b]` is given only for
`b < N_BANKS` (R33) and R402 has no entry for ADD_PAGE, so a call for a bank of `N_BANKS` or more installs nothing and logs
nothing; `NILPAGE`, and a page index that the arena does not hold, goes into slot 0, where it resolves to the Nil page. -/
def Build.addPage (bank page : Nat) (b : Build) : Build :=
  if b.cfg.nBanks ≤ bank then b
  else { b with cfg := { b.cfg with
      layouts := b.cfg.banks.modify bank fun l => l.set (b.cfg.page page).slot.toNat page } }

/-- ADD_LAYOUT(i, layout) (R171). DESIGN CHOICE, log entry 27: a layout is a fixed array of eight pages (R7, R33), and a list of
another length is taken by its first eight entries, `NILPAGE` for those it lacks. -/
def Build.addLayout (index : Nat) (layout : List Nat) (b : Build) : Build :=
  if b.cfg.nBanks ≤ index then b.logged (.layoutIndexRange index)
  else { b with cfg := { b.cfg with layouts := b.cfg.banks.set index (eightSlots layout) } }

/-- Some port of `base .. base + count - 1` is claimed (R172). -/
def Build.portsTaken (base : Port) (count : Nat) (b : Build) : Bool :=
  b.cfg.claims.any fun k => decide (k.base.toNat < base.toNat + count) && decide (base.toNat < k.base.toNat + k.count)

/-- ADD_DEVICE(d, base, n) and what it answers (R172): a conflicting claim fails and leaves every port as it was. -/
def Build.addDevice (dev : Device) (base : Port) (count : Nat) (b : Build) : Build × Bool :=
  if count = 0 ∨ 256 < base.toNat + count ∨ b.portsTaken base count = true then
    (b.logged (.portConflict dev base count), false)
  else ({ b with cfg := { b.cfg with claims := b.cfg.claims ++ [⟨dev, base, count⟩] } }, true)

/-- REGISTER_HOST(h): a second registration is logged and still overwrites (R272). -/
def Build.registerHost (peer : HostPeer) (b : Build) : Build :=
  let b := if b.cfg.host = none then b else b.logged (.doubleRegistration .host)
  { b with cfg := { b.cfg with host := some peer } }

/-- REGISTER_DEVICE(d) (R273). -/
def Build.registerDevice (peer : DevicePeer) (b : Build) : Build :=
  let b := if b.cfg.device = none then b else b.logged (.doubleRegistration .device)
  { b with cfg := { b.cfg with device := some peer } }

/-- The controller becomes a clock user (R434 step 5). -/
def Build.registerClock (b : Build) : Build := { b with cfg := { b.cfg with clocked := true } }

/-- One build-time call. -/
def Build.call (b : Build) : BuildCall → Build
  | .createPage page bytes => b.createPage page bytes
  | .loadRom page offset image => (b.loadRom page offset image).1
  | .loadDrive drive bytes => b.loadDrive drive bytes
  | .addPage bank page => b.addPage bank page
  | .addLayout index layout => b.addLayout index layout
  | .addDevice dev base count => (b.addDevice dev base count).1
  | .registerHost peer => b.registerHost peer
  | .registerDevice peer => b.registerDevice peer
  | .registerClock => b.registerClock

/-- Power-on, in the order of R430: the decoder, the GPP latch, the interrupt controller, the link, the host interface, and
last the body of the master reset (R351). The bytes of RAM are whatever `mem` holds: a free draw (R58, P1). -/
def powerOn (cfg : Config) (mem : Memory) (media : List Memory) : State :=
  let s : State :=
    { cfg := cfg, mem := mem, dec := ⟨0#8, 0, 0⟩, gpp := 0#8, pending := 0#8,
      link := ⟨0#8, false, false, false, false, false, false, false, false⟩, hif := ⟨false, false, false, false⟩,
      z47 := Z47.initial, media := media, log := [], cpu := [], returned := none, draws := 0, ops := [] }
  masterReset (cardPowerOn (linkReset (intcReset (gppReset (decoderReset s)))))

/-- The system before and after power-on. -/
inductive System where
  | building (b : Build)
  | running (s : State)
deriving DecidableEq, Repr

/-- A build-time call on the system: none is legal once the system runs (R434, P16). -/
def System.build (c : BuildCall) : System → Host.Outcome System Fault Refusal
  | .building b => .next (.building (b.call c))
  | .running _ => .refused .buildAfterPowerOn

/-- Power-on of a built system: a configuration that breaks R9 is refused (P15). -/
def System.start : System → Host.Outcome System Fault Refusal
  | .building b => if b.cfg.ok then .next (.running (powerOn b.cfg b.mem b.media)) else .refused .badConfiguration
  | .running _ => .refused .buildAfterPowerOn

end Sys2Proof.Machine
end

