-- ==== Sys2Proof/Safety.lean ====
section
/-! DEFINITION. What a safe state of the block is, in the terms the statements use, and what a run is. No operation can stop the
machine (R400), so safety here is what every operation keeps. -/

namespace Sys2Proof.Machine

/-! ### Invariants -/

/-- Every byte store is in its one canonical form, and there is one image for each drive. -/
def State.Canonical (s : State) : Prop :=
  s.mem.wf = true ∧ (∀ m ∈ s.media, Memory.wf m = true) ∧ s.media.length = s.cfg.numDrives

/-- The decoder is one its variant can have (R34, R35, R207, R208, R210). -/
def State.DecoderLegal (s : State) : Prop :=
  s.dec.curBank < s.cfg.nBanks ∧
  match s.cfg.variant with
  | .h88 => s.dec.gppBits = 0x00#8 ∧ s.dec.lockState = 0
  | .h89 => s.dec.gppBits = s.cfg.h89Org0Mask ∧ s.dec.lockState = 0
  | .mms77318 =>
    s.dec.lockState ≤ unlocked ∧
    s.dec.gppBits = if s.dec.lockState = unlocked then s.cfg.mmsBankMask else s.cfg.mmsUnlockMask ||| s.cfg.mmsPreMask

/-- "data-direction flags are mutually exclusive" (R39). -/
def State.FlagsExclusive (s : State) : Prop := ¬(s.link.dataFromHost = true ∧ s.link.dataFromDrive = true)

/-- Where the card is the registered host, the request last sent is the one its condition asks for (R42, R297). -/
def State.RequestCurrent (s : State) : Prop := s.cfg.host = some .card → s.hif.irq = irqWanted s.hif s.link

/-- The transfer in its data phase: position and bytes left add up, and what is left lies in the image of a drive the
controller serves (R46, R48, R340, R341, R381). -/
def Z47.InTransfer (z : Z47) (numDrives : Nat) : Prop :=
  z.statePosition + z.bytesToTransfer = 3 + sectorSize * z.sectorCount ∧
  z.offset + z.bytesToTransfer ≤ imageSize ∧ z.drive.toNat < numDrives

/-- Where the controller can be in its sequence (R45, R46, R48, R49, R334, R356). -/
structure Z47.Legal (z : Z47) (numDrives : Nat) : Prop where
  countDown_le : z.countDown ≤ settleCycles
  settling : 0 < z.countDown → z.linkState = .awaitingReadyState ∧ z.ctrlState = .none
  idle_position : z.ctrlState = .none → z.statePosition = 0
  invalid_never_held : z.ctrlState ≠ .invalidCommand
  pending_only_ready : z.rxPending = true → z.linkState = .ready
  sectorCount_pos : 1 ≤ z.sectorCount
  offset_le : z.offset ≤ imageSize
  status_position : z.ctrlState = .readControllerStatus → z.statePosition = 1
  running_position : z.ctrlState ≠ .none → 1 ≤ z.statePosition
  reading : z.ctrlState = .readSectorsBuffered → 3 ≤ z.statePosition → z.InTransfer numDrives
  writing : z.ctrlState = .writeSectorsBuffered → 3 ≤ z.statePosition → z.InTransfer numDrives ∧ 1 ≤ z.bytesToTransfer

/-- The controller's sequencer is legal. -/
def State.SequencerLegal (s : State) : Prop := s.z47.Legal s.cfg.numDrives

/-! ### Link-state transitions (R322) -/

/-- The edges of R322, but for the one from any state to AwaitingToReceive. -/
def linkEdge : LinkState → LinkState → Bool
  | .awaitingToReqReceive, .awaitingToReceive => true
  | .awaitingToTransmit, .awaitingTransmitComplete => true
  | .holdingDTR, .awaitingReadyState => true
  | .awaitingReadyState, .ready => true
  | .awaitingToReceive, .ready => true
  | .awaitingTransmitComplete, .holdingDTR => true
  | .ready, .awaitingToReqReceive => true
  | .ready, .awaitingToTransmit => true
  | .ready, .awaitingReadyState => true
  | _, _ => false

/-! ### The request line as one update -/

/-- What the host's handler leaves of a state whose link or enable has just changed, written as one update: `HIF.irq` is the
wanted level, and where that is a change the level `Z47_INT_LEVEL` is raised or lowered and the CPU called once (R297). It is
meant for a level the interrupt controller has (R9 (e)). -/
def settleIrq (s : State) : State :=
  if irqWanted s.hif s.link = s.hif.irq then s
  else if irqWanted s.hif s.link then
    { s with
      hif := { s.hif with irq := true }
      pending := s.pending ||| levelBit s.cfg.z47IntLevel
      cpu := s.cpu ++ [.raiseInt s.cfg.z47IntLevel] }
  else
    { s with
      hif := { s.hif with irq := false }
      pending := s.pending &&& ~~~levelBit s.cfg.z47IntLevel
      cpu := s.cpu ++ [.lowerInt s.cfg.z47IntLevel] }

/-! ### Runs -/

/-- The state after a sequence of operations, each answering a next state, and the bytes they returned in order; none where one
of them stops. -/
def runOps : List Instr → State → Option (State × List Byte)
  | [], s => some (s, [])
  | i :: is, s =>
    match exec i s with
    | .next t =>
      match runOps is t with
      | some (u, bs) => some (u, t.returned.toList ++ bs)
      | none => none
    | .fault _ => none
    | .refused _ => none

/-- `n` copies of a sequence of operations, one after another. -/
def repeatOps (n : Nat) (ops : List Instr) : List Instr := (List.replicate n ops).flatten

/-- One byte from the drive: two notifications offer it, the host reads it, two more end the handshake (R323). -/
def readByteOps (c1 c2 c3 c4 : BitVec 16) : List Instr := [.tick c1, .tick c2, .z47Din, .tick c3, .tick c4]

/-- One byte to the drive: one notification requests it, the host writes it, one notification consumes it (R323). -/
def writeByteOps (c1 c2 : BitVec 16) (v : Byte) : List Instr := [.tick c1, .z47Dout v, .tick c2]

end Sys2Proof.Machine
end

