-- ==== Sys2Proof/Certificates/Slice0/Obligations.lean ====
section
/-! DEFINITION. The statements for the provers. A state after an operation is written as one update of the state before it wherever
the rules give every field, so that a result statement is its own frame and its own completion statement. Where the request
line of the host interface is touched, `settleIrq` (Safety.lean) is that part of the update. -/

open Sys2Proof Sys2Proof.Machine

/-! ### Encoding -/

/-- Every operation decodes from its canonical word, under all legal port and command numbers. -/
def Obligations.DecodeEncodeAgree : Prop :=
  ∀ (c : Codes), c.ok = true → ∀ i : Instr, i.wf c = true → decode c (encode c i) = .ok i

/-- What the decoder reads is always an operation in its own spelling, so that the round trip above covers everything that can be
decoded. -/
def Obligations.DecodedOperationIsWellFormed : Prop :=
  ∀ (c : Codes) (w : OpWord) (i : Instr), decode c w = .ok i → i.wf c = true ∧ (c.ok = true → decode c (encode c i) = .ok i)

/-- R121 to R124: a T word `kind << 24 | addr << 8 | data` by kind; a field a kind does not use may hold anything. -/
def Obligations.TransactionWordsDecodeByKind : Prop :=
  ∀ (c : Codes) (a : BitVec 16) (hi p d : Byte),
    decode c (.t (0#3 ++ a ++ d)) = .ok (.mrd a) ∧
    decode c (.t (1#3 ++ a ++ d)) = .ok (.mwr a d) ∧
    decode c (.t (2#3 ++ a ++ d)) = .ok (.inta a) ∧
    (c.plainPort p = true →
      decode c (.t (3#3 ++ (hi ++ p) ++ d)) = .ok (.inp p) ∧ decode c (.t (4#3 ++ (hi ++ p) ++ d)) = .ok (.out p d)) ∧
    decode c (.t (3#3 ++ (hi ++ c.gppPort) ++ d)) = .ok .gppRd ∧
    decode c (.t (4#3 ++ (hi ++ c.gppPort) ++ d)) = .ok (.gppWr d) ∧
    (c.ok = true →
      decode c (.t (3#3 ++ (hi ++ c.z47PortBase) ++ d)) = .ok .z47Stat ∧
      decode c (.t (4#3 ++ (hi ++ c.z47PortBase) ++ d)) = .ok (.z47Cmd d) ∧
      decode c (.t (3#3 ++ (hi ++ c.z47DataPort) ++ d)) = .ok .z47Din ∧
      decode c (.t (4#3 ++ (hi ++ c.z47DataPort) ++ d)) = .ok (.z47Dout d)) ∧
    decode c (.t (5#3 ++ a ++ d)) = .ok (.tick a) ∧
    decode c (.t (6#3 ++ a ++ d)) = .ok .reset ∧
    decode c (.t (7#3 ++ a ++ d)) = .error .reservedTransaction

/-- R127, R129: a signal-set word is read by bit 0 of its data, an interrupt-line word by its low three bits; the bits between are
ignored. -/
def Obligations.IgnoredLinkAndLineBits : Prop :=
  ∀ (c : Codes) (data : Byte) (x : BitVec 1) (l : BitVec 3),
    decode c (.lk (2#4 ++ data)) = .ok .readByHost ∧
    decode c (.lk (3#4 ++ data)) = .ok .readByDrive ∧
    decode c (.lk (4#4 ++ data)) = .ok (.setBusy (data.getLsbD 0)) ∧
    decode c (.lk (5#4 ++ data)) = .ok (.setDtr (data.getLsbD 0)) ∧
    decode c (.lk (6#4 ++ data)) = .ok (.setDdout (data.getLsbD 0)) ∧
    decode c (.lk (7#4 ++ data)) = .ok (.setError (data.getLsbD 0)) ∧
    decode c (.lk (8#4 ++ data)) = .ok (.setMr (data.getLsbD 0)) ∧
    decode c (.lk (9#4 ++ data)) = .ok (.setDtak (data.getLsbD 0)) ∧
    decode c (.iq (0#2 ++ x ++ l)) = .ok (.raiseInt l) ∧
    decode c (.iq (1#2 ++ x ++ l)) = .ok (.lowerInt l) ∧
    decode c (.iq (2#2 ++ x ++ l)) = .ok .raiseNmi

/-- R124, R127, R129, R142: a word is refused exactly where its T kind is 7, its LK code 10 or more, or its IQ op 3. -/
def Obligations.ReservedWordsAreThoseRefused : Prop :=
  ∀ (s : State) (w : OpWord) (rest : List OpWord), s.cfg.ok = true → s.ops = w :: rest →
    ((∃ r, step s = .refused r) ↔
      match w with
      | .t v => v.extractLsb' 24 3 = 7#3
      | .lk v => 10 ≤ (v.extractLsb' 8 4).toNat
      | .iq v => v.extractLsb' 4 2 = 3#2
      | .zc _ => False)

/-- Words written out from the tables of 30_encoding.md, with the table's port and command numbers (a sanity check). -/
def Obligations.SpecWordsDecode : Prop :=
  decodeTableWord 32 0x1E0005A = some (.mwr 0xE000#16 0x5A#8) ∧
  decodeTableWord 32 0x312F200 = some .gppRd ∧
  decodeTableWord 32 0x5007800 = some (.tick 120#16) ∧
  decodeTableWord 32 0x4007907 = some (.z47Dout 0x07#8) ∧
  decodeTableWord 16 0x14A = some (.sendDrive 0x4A#8) ∧
  decodeTableWord 16 0x5FF = some (.setDtr true) ∧
  decode Codes.table (.iq 0x0C#6) = .ok (.raiseInt 4#3) ∧
  decode Codes.table (.zc 0x55#8) = .ok (.z47Invalid 0x55#8)

/-! ### The step -/

/-- A step takes the next operation issued, and runs exactly what its word decodes to; a word placed for the next step is that
operation; where no operation has been issued a step changes nothing. The queue of issued operations and the idle step are the
model's own (log entries 1 and 2). -/
def Obligations.StepRunsDecodedOperation : Prop :=
  (∀ (s : State) (w : OpWord) (rest : List OpWord) (i : Instr),
    s.cfg.ok = true → s.ops = w :: rest → decode s.cfg.codes w = .ok i → step s = exec i { s with ops := rest }) ∧
  (∀ (s : State) (nbits w : Nat) (i : Instr),
    s.cfg.ok = true → decode s.cfg.codes (tableWord nbits w) = .ok i → step (s.withFetchWord nbits w) = exec i s) ∧
  (∀ s : State, s.cfg.ok = true → s.ops = [] → step s = .next s)

/-- R9: a configuration that breaks one of the six constraints is refused. That the refusal stands in the step is the model's choice
(log entry 18). -/
def Obligations.IllegalConfigurationRefused : Prop :=
  ∀ s : State,
    ((s.cfg.variant = .h89 ∧ s.cfg.nBanks < 2 ^ popcount s.cfg.h89Org0Mask) ∨
     (s.cfg.variant = .mms77318 ∧
       (s.cfg.nBanks < 2 ^ popcount s.cfg.h89Org0Mask ∨ s.cfg.nBanks < 2 ^ popcount s.cfg.mmsBankMask)) ∨
     popcount s.cfg.mmsBankMask ≠ 3 ∨ s.cfg.mmsBankMask &&& s.cfg.mmsUnlockMask ≠ 0#8 ∨
     (∃ p ∈ s.cfg.pages, ∃ ro ins shadow, p.kind = .wur ro ins shadow ∧ s.cfg.kind shadow ≠ .ram) ∨
     s.cfg.codes.z47PortBase = 0xFF#8 ∨ s.cfg.codes.gppPort = s.cfg.codes.z47PortBase ∨
     s.cfg.codes.gppPort = s.cfg.codes.z47PortBase + 1#8 ∨
     s.cfg.intLevels.val ≤ s.cfg.z47IntLevel ∨
     s.cfg.codes.cmdWsb = 0x07#8 ∨ s.cfg.codes.cmdRcs = 0x07#8 ∨ s.cfg.codes.cmdWsb = s.cfg.codes.cmdRcs) →
    step s = .refused .badConfiguration

/-- R400: every operation completes, in every state; what the machine refuses is a reserved word or an illegal configuration. -/
def Obligations.EveryOperationCompletes : Prop :=
  (∀ (i : Instr) (s : State), ∃ t, exec i s = .next t) ∧
  (∀ s : State, (∃ t, step s = .next t) ∨
    (s.cfg.ok = false ∧ step s = .refused .badConfiguration) ∨
    (∃ w rest e, s.ops = w :: rest ∧ decode s.cfg.codes w = .error e ∧ step s = .refused (.reservedWord e)))

/-! ### Memory -/

/-- R160, R85, R88, R91: MRD by the kind of the page the address resolves to. -/
def Obligations.MrdReturnsTheResolvedByte : Prop :=
  ∀ (s : State) (a : Addr) (p : Nat) (off : PageOffset),
    s.cfg.layoutPage s.dec.curBank (a.extractLsb' 13 3) = p → a.extractLsb' 0 13 = off →
    (s.cfg.kind p = .ram ∨ s.cfg.kind p = .rom → exec (.mrd a) s = .next { s with returned := some (s.pageByte p off) }) ∧
    (s.cfg.kind p = .nil → exec (.mrd a) s = .next { s with returned := some 0x00#8 }) ∧
    (∀ ro ins shadow, s.cfg.kind p = .wur ro ins shadow →
      (ins.getLsbD (off.extractLsb' 10 3).toNat = true → exec (.mrd a) s = .next { s with returned := some (s.pageByte p off) }) ∧
      (ins.getLsbD (off.extractLsb' 10 3).toNat = false →
        exec (.mrd a) s = .next { s with returned := some s.cfg.wurUninstalledRead }))

/-- R161, R86, R89: MWR by the kind of the page. The bytes stored to are the page's own byte (RAM), none (ROM, Nil), or the shadow's
byte and, in an installed sub-block that is not read-only, the overlay's (WUR); every other byte reads as before. -/
def Obligations.MwrStoresWhereThePageSays : Prop :=
  ∀ (s : State) (a : Addr) (v : Byte), s.mem.wf = true →
    let p := s.cfg.layoutPage s.dec.curBank (a.extractLsb' 13 3)
    let off : PageOffset := a.extractLsb' 0 13
    let k := (off.extractLsb' 10 3).toNat
    (s.cfg.kind p = .ram → ∃ t, exec (.mwr a v) s = .next t ∧ t = { s with mem := t.mem, returned := none } ∧
      ∀ q r, t.pageByte q r = if q = p ∧ r = off then v else s.pageByte q r) ∧
    (s.cfg.kind p = .rom ∨ s.cfg.kind p = .nil → exec (.mwr a v) s = .next { s with returned := none }) ∧
    (∀ ro ins shadow, s.cfg.kind p = .wur ro ins shadow → s.cfg.kind shadow = .ram →
      ∃ t, exec (.mwr a v) s = .next t ∧ t = { s with mem := t.mem, returned := none } ∧
        ∀ q r, t.pageByte q r =
          if r = off ∧ (q = shadow ∨ (q = p ∧ ins.getLsbD k = true ∧ ro.getLsbD k = false)) then v else s.pageByte q r)

/-- R99, R97: a byte written to a RAM page is read back at every address and through every bank that reaches the same page and
offset, and at no other. -/
def Obligations.WrittenByteIsReadBackThroughAnyBank : Prop :=
  ∀ (s t : State) (a : Addr) (v : Byte), s.mem.wf = true → s.cfg.kind (resolve s a) = .ram → exec (.mwr a v) s = .next t →
    ∀ (d : Decoder) (b : Addr), s.cfg.kind (resolve { t with dec := d } b) = .ram →
      ∃ u, exec (.mrd b) { t with dec := d } = .next u ∧
        u.returned = some (if resolve { t with dec := d } b = resolve s a ∧ offsetOf b = offsetOf a then v
          else s.pageByte (resolve { t with dec := d } b) (offsetOf b))

/-- R439, R100: on an H89, a byte stored into the ROM range of bank 0 is what the ORG-0 bank reads there after the very next GPP
write, while bank 0 goes on reading the ROM. -/
def Obligations.WriteUnderRomShowsInOrg0 : Prop :=
  ∀ (s : State) (a : Addr) (v w : Byte) (p shadow : Nat) (ro ins : Byte),
    s.mem.wf = true → s.cfg.variant = .h89 → s.DecoderLegal → s.cfg.wired = true → s.dec.curBank = 0 →
    s.cfg.layoutPage 0 (slotOf a) = p → s.cfg.kind p = .wur ro ins shadow → s.cfg.kind shadow = .ram →
    s.cfg.layoutPage 1 (slotOf a) = shadow → maskBit ins (subBlock (offsetOf a)) = true →
    maskBit ro (subBlock (offsetOf a)) = true → pext w s.cfg.h89Org0Mask = 1 →
    ∃ u, runOps [.mwr a v, .mrd a, .gppWr w, .mrd a] s = some (u, [s.pageByte p (offsetOf a), v])

/-- R86, R89, R90: no operation changes a byte of a ROM page, or of a sub-block of an overlay that is read-only or not installed. -/
def Obligations.RomBytesNeverChange : Prop :=
  ∀ (i : Instr) (s t : State) (p : Nat) (off : PageOffset), s.mem.wf = true → exec i s = .next t →
    (s.cfg.kind p = .rom ∨ ∃ ro ins shadow, s.cfg.kind p = .wur ro ins shadow ∧
      (ro.getLsbD (subBlock off).toNat = true ∨ ins.getLsbD (subBlock off).toNat = false)) →
    t.pageByte p off = s.pageByte p off

/-- R54, R84, R161, R105: configuration is never written, page bytes are written by MWR alone, and image bytes by TICK alone. R36, R201,
R213: the decoder and the GPP latch are written by RESET, and else only by an OUT, spelled as OUT or as a port view, to the port
where the GPP's claim begins; no other operation switches a bank. -/
def Obligations.OnlyMwrAndTickStore : Prop :=
  ∀ (i : Instr) (s t : State), exec i s = .next t →
    t.cfg = s.cfg ∧ ((∀ a v, i ≠ .mwr a v) → t.mem = s.mem) ∧ ((∀ c, i ≠ .tick c) → t.media = s.media) ∧
    ((match i with
      | .reset => False
      | .out p _ => ∀ k, s.cfg.owner p = some k → k.dev = .gpp → k.base ≠ p
      | .gppWr _ => ∀ k, s.cfg.owner s.cfg.codes.gppPort = some k → k.dev = .gpp → k.base ≠ s.cfg.codes.gppPort
      | .z47Cmd _ => ∀ k, s.cfg.owner s.cfg.codes.z47PortBase = some k → k.dev = .gpp → k.base ≠ s.cfg.codes.z47PortBase
      | .z47Dout _ => ∀ k, s.cfg.owner s.cfg.codes.z47DataPort = some k → k.dev = .gpp → k.base ≠ s.cfg.codes.z47DataPort
      | _ => True) →
      t.dec = s.dec ∧ t.gpp = s.gpp)

/-- Every byte store stays in its canonical form, and there stays one image for each drive. -/
def Obligations.StepKeepsCanonical : Prop :=
  ∀ s t : State, s.Canonical → step s = .next t → t.Canonical

/-! ### Ports -/

/-- R163, R164: an unclaimed port reads as the floating value and takes nothing. R125, R126: a port view does what IN or OUT at its
port does, whoever owns that port (log entry 10). -/
def Obligations.UnclaimedPortsFloatAndViewsArePorts : Prop :=
  ∀ (s : State) (p : Port) (v : Byte),
    (s.cfg.owner p = none →
      exec (.inp p) s = .next { s with returned := some 0xFF#8 } ∧ exec (.out p v) s = .next { s with returned := none }) ∧
    exec .gppRd s = exec (.inp s.cfg.codes.gppPort) s ∧
    exec (.gppWr v) s = exec (.out s.cfg.codes.gppPort v) s ∧
    exec .z47Stat s = exec (.inp s.cfg.codes.z47PortBase) s ∧
    exec (.z47Cmd v) s = exec (.out s.cfg.codes.z47PortBase v) s ∧
    exec .z47Din s = exec (.inp (s.cfg.codes.z47PortBase + 1#8)) s ∧
    exec (.z47Dout v) s = exec (.out (s.cfg.codes.z47PortBase + 1#8) v) s

/-- The model's choice (log entry 6): a port of a device outside the block reads as a free byte, and its handlers leave the block's
state alone. -/
def Obligations.ExternalPortsLeaveTheBlock : Prop :=
  ∀ (s : State) (p : Port) (v : Byte) (n : Nat) (k : Claim), s.cfg.owner p = some k → k.dev = .external n →
    (∃ b, exec (.inp p) s = .next { s with returned := some b, draws := s.draws + 1 }) ∧
    exec (.out p v) s = .next { s with returned := none }

/-- R167: the reset broadcast names each device that claims a port, once, in ascending order of its lowest port. -/
def Obligations.ResetBroadcastOncePerDevice : Prop :=
  ∀ c : Config,
    c.resetOrder.Nodup ∧
    (∀ d, d ∈ c.resetOrder ↔ ∃ k ∈ c.claims, k.dev = d) ∧
    c.resetOrder.Pairwise fun d e =>
      ∃ k ∈ c.claims, k.dev = d ∧ ∀ j ∈ c.claims, j.dev = e → k.base.toNat ≤ j.base.toNat

/-! ### Bank switching -/

/-- R11: `pext` packs the live bits in ascending order: the bit of `v` at a live position lands below as many bits as there are live
positions below it, and nothing lies above the last. -/
def Obligations.PextPacksLiveBitsInOrder : Prop :=
  ∀ (v m : Byte), pext v m < 2 ^ popcount m ∧
    ∀ i, i < 8 → m.getLsbD i = true →
      (pext v m).testBit (popcount (m &&& (BitVec.ofNat 8 (2 ^ i - 1)))) = v.getLsbD i

/-- R200, R203, R204: a GPP write on the H88 and the H89, as GPP_WR and as OUT to the port. -/
def Obligations.GppWriteOnH88AndH89 : Prop :=
  ∀ (s : State) (v : Byte) (p : Port) (n : Nat) (i : Instr), s.cfg.owner p = some ⟨.gpp, p, n⟩ →
    (i = .out p v ∨ (i = .gppWr v ∧ p = s.cfg.codes.gppPort)) →
    (s.cfg.variant = .h88 →
      exec i s = .next { s with gpp := v, dec := { s.dec with curBank := 0 }, returned := none }) ∧
    (s.cfg.variant = .h89 →
      exec i s = .next { s with gpp := v, dec := { s.dec with curBank := pext v s.dec.gppBits }, returned := none })

/-- R205, R206, R208: a GPP write on a locked MMS77318: a match goes on, any mismatch restarts at 1, and the write that completes the
sequence already selects with the bank mask. -/
def Obligations.GppWriteOnLockedMms77318 : Prop :=
  ∀ (s : State) (v : Byte) (p : Port) (n l : Nat) (i : Instr), s.cfg.owner p = some ⟨.gpp, p, n⟩ →
    (i = .out p v ∨ (i = .gppWr v ∧ p = s.cfg.codes.gppPort)) →
    s.cfg.variant = .mms77318 → s.dec.lockState < 6 →
    l = (if v &&& s.cfg.mmsUnlockMask = [0x04#8, 0x0C#8, 0x04#8, 0x08#8, 0x0C#8, 0x08#8].getD s.dec.lockState 0#8
      then s.dec.lockState + 1 else 1) →
    exec i s = .next { s with
      gpp := v, returned := none
      dec := if l = 6 then ⟨s.cfg.mmsBankMask, pext v s.cfg.mmsBankMask, 6⟩
        else ⟨s.dec.gppBits, pext v s.cfg.h89Org0Mask, l⟩ }

/-- R205, R206: on a decoder at step 0, any first byte and then the last five bytes of the sequence unlock it: "any mismatch resets the
lock state to step 1 (not 0)". -/
def Obligations.UnlockSequenceOpensTheBanks : Prop :=
  ∀ (s : State) (b0 b1 b2 b3 b4 b5 : Byte), s.cfg.variant = .mms77318 → s.cfg.wired = true → s.dec.lockState = 0 →
    b1 &&& s.cfg.mmsUnlockMask = 0x0C#8 → b2 &&& s.cfg.mmsUnlockMask = 0x04#8 → b3 &&& s.cfg.mmsUnlockMask = 0x08#8 →
    b4 &&& s.cfg.mmsUnlockMask = 0x0C#8 → b5 &&& s.cfg.mmsUnlockMask = 0x08#8 →
    runOps [.gppWr b0, .gppWr b1, .gppWr b2, .gppWr b3, .gppWr b4, .gppWr b5] s =
      some ({ s with gpp := b5, dec := ⟨s.cfg.mmsBankMask, pext b5 s.cfg.mmsBankMask, 6⟩, returned := none }, [])

/-- R207, R209: once unlocked, only RESET re-arms the lock, and a GPP write selects by the bank-select bits of its byte alone. -/
def Obligations.UnlockedUntilReset : Prop :=
  ∀ (i : Instr) (s t : State), s.cfg.variant = .mms77318 → s.dec.lockState = 6 → exec i s = .next t →
    (i ≠ .reset → t.dec.lockState = 6 ∧ t.dec.gppBits = s.dec.gppBits) ∧
    (i = .reset → t.dec.lockState = 0 ∧ t.dec.gppBits = s.cfg.mmsUnlockMask ||| s.cfg.h89Org0Mask) ∧
    (s.cfg.wired = true → ∀ v w t', i = .gppWr v → v &&& s.cfg.mmsBankMask = w &&& s.cfg.mmsBankMask →
      exec (.gppWr w) s = .next t' → t.dec.curBank = pext v s.cfg.mmsBankMask ∧ t'.dec.curBank = t.dec.curBank)

/-- R212: a GPP read returns the configured byte, not the latch, and writes nothing. -/
def Obligations.GppReadReturnsTheSwitches : Prop :=
  ∀ (s : State) (p : Port) (n : Nat) (i : Instr), s.cfg.owner p = some ⟨.gpp, p, n⟩ →
    (i = .inp p ∨ (i = .gppRd ∧ p = s.cfg.codes.gppPort)) →
    exec i s = .next { s with returned := some s.cfg.gppInValue }

/-- R210, R34, R35, R207: the current bank is below the number of banks, and the interest mask is the one of the variant and of the
lock, after every step. -/
def Obligations.StepKeepsDecoderLegal : Prop :=
  ∀ s t : State, s.DecoderLegal → step s = .next t → t.DecoderLegal

/-! ### Interrupt lines -/

/-- R162, R245, R246: INTA returns the vector byte of the pending levels and writes nothing; the reference function gives `RST n` for
the highest pending level and the floating value for none, a table the byte it holds. -/
def Obligations.IntaReturnsTheVector : Prop :=
  ∀ (s : State) (a : Addr),
    (∃ b, exec (.inta a) s = .next { s with returned := some b } ∧
      (s.cfg.intaVector = .reference → s.pending = 0x00#8 → b = 0xFF#8) ∧
      (∀ n, s.cfg.intaVector = .reference → n < 8 → s.pending.getLsbD n = true →
        (∀ m, n < m → s.pending.getLsbD m = false) → b = 0xC7#8 ||| (BitVec.ofNat 8 n <<< 3)) ∧
      (∀ bytes, s.cfg.intaVector = .table bytes → s.pending.toNat < bytes.length → bytes[s.pending.toNat]? = some b))

/-- R240 to R243: raising and lowering a level and raising NMI, each with its one call to the CPU; a level that is not below INT_LEVELS
is logged and changes nothing else. With the eight levels of R8 an IQ word names no such level, so only a direct call can (R243).
The clause of an IQ word that names one has instances only in a configuration with fewer than eight levels, and that the model
runs such a configuration at all is its own choice (log entry 24). -/
def Obligations.InterruptLineOperations : Prop :=
  (∀ (s : State) (l : BitVec 3), l.toNat < s.cfg.intLevels.val →
    (∃ q, exec (.raiseInt l) s = .next { s with pending := q, cpu := s.cpu ++ [.raiseInt l.toNat], returned := none } ∧
      ∀ k, k < 8 → q.getLsbD k = (decide (k = l.toNat) || s.pending.getLsbD k)) ∧
    (∃ q, exec (.lowerInt l) s = .next { s with pending := q, cpu := s.cpu ++ [.lowerInt l.toNat], returned := none } ∧
      ∀ k, k < 8 → q.getLsbD k = (!decide (k = l.toNat) && s.pending.getLsbD k))) ∧
  (∀ (s : State) (l : BitVec 3), s.cfg.intLevels.val ≤ l.toNat →
    exec (.raiseInt l) s = .next { s with log := s.log ++ [.intLevelRange l.toNat], returned := none } ∧
    exec (.lowerInt l) s = .next { s with log := s.log ++ [.intLevelRange l.toNat], returned := none }) ∧
  (∀ (s : State) (l : BitVec 3), s.cfg.intLevels.val = 8 → l.toNat < s.cfg.intLevels.val) ∧
  (∀ (s : State) (l : Nat), s.cfg.intLevels.val ≤ l →
    raiseInt l s = { s with log := s.log ++ [.intLevelRange l] } ∧ lowerInt l s = { s with log := s.log ++ [.intLevelRange l] }) ∧
  (∀ s : State, exec .raiseNmi s = .next { s with cpu := s.cpu ++ [.raiseNmi], returned := none })

/-! ### Parallel link -/

/-- R260 to R263: a send puts its byte in the latch, takes the direction over, and logs a contention where a byte of the other side was
pending; a read returns the latch and clears the flag of the direction it reads. -/
def Obligations.LinkDataPath : Prop :=
  ∀ (s : State) (v : Byte),
    exec (.sendHost v) s = .next { s with
      link := { s.link with data := v, dataFromHost := true, dataFromDrive := false }
      log := if s.link.dataFromDrive = true then s.log ++ [.linkContention .host] else s.log
      returned := none } ∧
    exec (.sendDrive v) s = .next { s with
      link := { s.link with data := v, dataFromHost := false, dataFromDrive := true }
      log := if s.link.dataFromHost = true then s.log ++ [.linkContention .drive] else s.log
      returned := none } ∧
    exec .readByHost s = .next { s with link := { s.link with dataFromDrive := false }, returned := some s.link.data } ∧
    exec .readByDrive s = .next { s with link := { s.link with dataFromHost := false }, returned := some s.link.data }

/-- R264, R267 to R271, R274, R295, R297: a drive-owned signal writes its shadow, and the registered card brings its request up to
date; where the card is not registered, and for a host-owned signal where the controller is not, the shadow is all (of a peer
outside the block this is the model's choice, log entry 23). -/
def Obligations.SignalsWriteTheirShadow : Prop :=
  ∀ (s : State) (b : Bool), s.cfg.z47IntLevel < s.cfg.intLevels.val →
    (s.cfg.host = some .card →
      exec (.setBusy b) s = .next (settleIrq { s with link := { s.link with busy := b }, returned := none }) ∧
      exec (.setDtr b) s = .next (settleIrq { s with link := { s.link with dtr := b }, returned := none }) ∧
      exec (.setDdout b) s = .next (settleIrq { s with link := { s.link with ddOut := b }, returned := none }) ∧
      exec (.setError b) s = .next (settleIrq { s with link := { s.link with error := b }, returned := none })) ∧
    (s.cfg.host ≠ some .card →
      exec (.setBusy b) s = .next { s with link := { s.link with busy := b }, returned := none } ∧
      exec (.setDtr b) s = .next { s with link := { s.link with dtr := b }, returned := none } ∧
      exec (.setDdout b) s = .next { s with link := { s.link with ddOut := b }, returned := none } ∧
      exec (.setError b) s = .next { s with link := { s.link with error := b }, returned := none }) ∧
    (s.cfg.device ≠ some .controller →
      exec (.setMr b) s = .next { s with link := { s.link with masterReset := b }, returned := none } ∧
      exec (.setDtak b) s = .next { s with link := { s.link with dtak := b }, returned := none })

/-- R271, R325, R350: a raised master reset reinitialises the controller and its signals, in whatever state it was; a lowered one only
writes the shadow. That the card's request is settled, as R264, R295 and R297 have it, and not left alone, as R432 and R433 list
it, is the model's choice (log entry 29). -/
def Obligations.MasterResetReinitialises : Prop :=
  ∀ s : State, s.cfg.z47IntLevel < s.cfg.intLevels.val → s.cfg.host = some .card → s.cfg.device = some .controller →
    exec (.setMr true) s = .next (settleIrq { s with
      z47 := {
        linkState := .awaitingToReceive, ctrlState := .none, countDown := 0, statePosition := 0, side := false, drive := 0#2,
        track := 0#8, sector := 0#5, offset := 0, bytesToTransfer := 0, sectorCount := 1, txByte := 0#8, rxByte := 0#8,
        rxPending := false, err := ⟨false, false, false, false, false, false, false, false⟩, readyChanged0 := true,
        readyChanged1 := true }
      link := { s.link with masterReset := true, busy := false, ddOut := false, error := false, dtr := true }
      returned := none }) ∧
    exec (.setMr false) s = .next { s with link := { s.link with masterReset := false }, returned := none }

/-- R274, R326: what a raised DTAK does in each link state; a lowered one only writes the shadow. -/
def Obligations.DtakActsByLinkState : Prop :=
  ∀ s : State, s.cfg.z47IntLevel < s.cfg.intLevels.val → s.cfg.host = some .card → s.cfg.device = some .controller →
    (s.z47.linkState = .awaitingToReceive → s.link.dataFromHost = true →
      exec (.setDtak true) s = .next (settleIrq { s with
        z47 := { s.z47 with rxByte := s.link.data, rxPending := true, linkState := .ready }
        link := { s.link with dtak := true, dataFromHost := false, dtr := false }
        returned := none })) ∧
    (s.z47.linkState = .awaitingTransmitComplete →
      exec (.setDtak true) s = .next { s with
        z47 := { s.z47 with linkState := .holdingDTR }, link := { s.link with dtak := true }, returned := none }) ∧
    (s.z47.linkState ≠ .awaitingTransmitComplete → ¬(s.z47.linkState = .awaitingToReceive ∧ s.link.dataFromHost = true) →
      exec (.setDtak true) s = .next { s with link := { s.link with dtak := true }, returned := none }) ∧
    exec (.setDtak false) s = .next { s with link := { s.link with dtak := false }, returned := none }

/-- R39: the direction flags stay mutually exclusive. -/
def Obligations.StepKeepsFlagsExclusive : Prop :=
  ∀ s t : State, s.FlagsExclusive → step s = .next t → t.FlagsExclusive

/-! ### Z47 host interface -/

/-- R290, R135: the status byte, bit by bit; reading it writes nothing. -/
def Obligations.StatusByteShowsTheLink : Prop :=
  ∀ (s : State) (p : Port) (n : Nat) (i : Instr), s.cfg.owner p = some ⟨.hif, p, n⟩ →
    (i = .inp p ∨ (i = .z47Stat ∧ p = s.cfg.codes.z47PortBase)) →
    ∃ b, exec i s = .next { s with returned := some b } ∧
      b.getLsbD 7 = s.link.dtr ∧ b.getLsbD 6 = s.hif.ie ∧ b.getLsbD 5 = !s.link.busy ∧ b.getLsbD 0 = s.link.error ∧
      b.getLsbD 4 = false ∧ b.getLsbD 3 = false ∧ b.getLsbD 2 = false ∧ b.getLsbD 1 = false

/-- R291, R297: a command byte sets IE and U137B, signals its master-reset bit only where that is a change, and settles the request;
a rising bit runs the master reset. -/
def Obligations.CommandByteWritesTheCard : Prop :=
  ∀ (s : State) (v : Byte) (p : Port) (n : Nat) (i : Instr), s.cfg.owner p = some ⟨.hif, p, n⟩ →
    (i = .out p v ∨ (i = .z47Cmd v ∧ p = s.cfg.codes.z47PortBase)) →
    s.cfg.z47IntLevel < s.cfg.intLevels.val → s.cfg.host = some .card → s.cfg.device = some .controller →
    (v.getLsbD 1 = s.hif.mr →
      exec i s = .next (settleIrq { s with
        hif := { s.hif with ie := v.getLsbD 6, u137b := v.getLsbD 0 }, returned := none })) ∧
    (v.getLsbD 1 = true → s.hif.mr = false →
      exec i s = .next (settleIrq { s with
        hif := { s.hif with ie := v.getLsbD 6, mr := true, u137b := v.getLsbD 0 }
        z47 := Z47.initial
        link := { s.link with masterReset := true, busy := false, ddOut := false, error := false, dtr := true }
        returned := none })) ∧
    (v.getLsbD 1 = false → s.hif.mr = true →
      exec i s = .next (settleIrq { s with
        hif := { s.hif with ie := v.getLsbD 6, mr := false, u137b := v.getLsbD 0 }
        link := { s.link with masterReset := false }
        returned := none }))

/-- R292, R294, R326: a data read returns the latch, clears the drive's flag and acknowledges: a byte offered is taken, a stale host
byte is delivered to a waiting controller, and otherwise nothing more happens. -/
def Obligations.DataReadAcknowledges : Prop :=
  ∀ (s : State) (p base : Port) (n : Nat) (i : Instr), s.cfg.owner p = some ⟨.hif, base, n⟩ →
    p.toNat = base.toNat + 1 → (i = .inp p ∨ (i = .z47Din ∧ p = s.cfg.codes.z47DataPort)) →
    s.cfg.z47IntLevel < s.cfg.intLevels.val → s.cfg.host = some .card → s.cfg.device = some .controller →
    (s.z47.linkState = .awaitingTransmitComplete →
      exec i s = .next { s with
        z47 := { s.z47 with linkState := .holdingDTR }
        link := { s.link with dataFromDrive := false, dtak := false }
        returned := some s.link.data }) ∧
    (s.z47.linkState = .awaitingToReceive → s.link.dataFromHost = true →
      exec i s = .next (settleIrq { s with
        z47 := { s.z47 with rxByte := s.link.data, rxPending := true, linkState := .ready }
        link := { s.link with dataFromDrive := false, dataFromHost := false, dtr := false, dtak := false }
        returned := some s.link.data })) ∧
    (s.z47.linkState ≠ .awaitingTransmitComplete → ¬(s.z47.linkState = .awaitingToReceive ∧ s.link.dataFromHost = true) →
      exec i s = .next { s with
        link := { s.link with dataFromDrive := false, dtak := false }
        returned := some s.link.data })

/-- R293, R294, R326, R260: a data write puts the byte in the latch and acknowledges: a waiting controller takes it and lowers DTR, a
byte offered is lost, and otherwise the byte waits in the latch. -/
def Obligations.DataWriteAcknowledges : Prop :=
  ∀ (s : State) (v : Byte) (p base : Port) (n : Nat) (i : Instr) (entries : List LogEntry),
    s.cfg.owner p = some ⟨.hif, base, n⟩ →
    p.toNat = base.toNat + 1 → (i = .out p v ∨ (i = .z47Dout v ∧ p = s.cfg.codes.z47DataPort)) →
    s.cfg.z47IntLevel < s.cfg.intLevels.val → s.cfg.host = some .card → s.cfg.device = some .controller →
    entries = (if s.link.dataFromDrive = true then s.log ++ [.linkContention .host] else s.log) →
    (s.z47.linkState = .awaitingToReceive →
      exec i s = .next (settleIrq { s with
        z47 := { s.z47 with rxByte := v, rxPending := true, linkState := .ready }
        link := { s.link with data := v, dataFromHost := false, dataFromDrive := false, dtr := false, dtak := false }
        log := entries, returned := none })) ∧
    (s.z47.linkState = .awaitingTransmitComplete →
      exec i s = .next { s with
        z47 := { s.z47 with linkState := .holdingDTR }
        link := { s.link with data := v, dataFromHost := true, dataFromDrive := false, dtak := false }
        log := entries, returned := none }) ∧
    (s.z47.linkState ≠ .awaitingTransmitComplete → s.z47.linkState ≠ .awaitingToReceive →
      exec i s = .next { s with
        link := { s.link with data := v, dataFromHost := true, dataFromDrive := false, dtak := false }
        log := entries, returned := none })

/-- R297: the request last sent is always the one the card's condition asks for. After a master reset by SET_MR this is the model's
choice (log entry 29). -/
def Obligations.StepKeepsRequestCurrent : Prop :=
  ∀ s t : State, s.RequestCurrent → step s = .next t → t.RequestCurrent

/-! ### Z47 controller: the clock and the link -/

/-- R320: a notification shorter than the countdown only shortens it; one that reaches zero runs one step, whatever is left of its
cycles. R165: a controller that is no clock user hears none, and TICK changes nothing of the block (clock users outside the block
are log entry 17). -/
def Obligations.CountdownFreezesTheController : Prop :=
  ∀ (s : State) (c : BitVec 16),
    (s.cfg.clocked = true → c.toNat < s.z47.countDown →
      exec (.tick c) s = .next { s with z47 := { s.z47 with countDown := s.z47.countDown - c.toNat }, returned := none }) ∧
    (s.cfg.clocked = true → s.z47.countDown ≤ c.toNat →
      exec (.tick c) s = exec (.tick 0#16) { s with z47 := { s.z47 with countDown := 0 } }) ∧
    (s.cfg.clocked = false → exec (.tick c) s = .next { s with returned := none })

/-- R321: the step of each link state but Ready. -/
def Obligations.LinkStepByLinkState : Prop :=
  ∀ (s : State) (c : BitVec 16), s.cfg.clocked = true → s.z47.countDown = 0 → s.cfg.z47IntLevel < s.cfg.intLevels.val →
    s.cfg.host = some .card → s.RequestCurrent →
    (s.z47.linkState = .awaitingToReqReceive →
      exec (.tick c) s = .next (settleIrq { s with
        z47 := { s.z47 with linkState := .awaitingToReceive }, link := { s.link with dtr := true }, returned := none })) ∧
    (s.z47.linkState = .awaitingToReceive ∨ s.z47.linkState = .awaitingTransmitComplete →
      exec (.tick c) s = .next { s with returned := none }) ∧
    (s.z47.linkState = .awaitingToTransmit →
      exec (.tick c) s = .next (settleIrq { s with
        z47 := { s.z47 with linkState := .awaitingTransmitComplete }
        link := { s.link with data := s.z47.txByte, dataFromHost := false, dataFromDrive := true, ddOut := true, dtr := true }
        log := if s.link.dataFromHost = true then s.log ++ [.linkContention .drive] else s.log
        returned := none })) ∧
    (s.z47.linkState = .holdingDTR →
      exec (.tick c) s = .next (settleIrq { s with
        z47 := { s.z47 with linkState := .awaitingReadyState }, link := { s.link with dtr := false }, returned := none })) ∧
    (s.z47.linkState = .awaitingReadyState →
      exec (.tick c) s = .next { s with
        z47 := { s.z47 with linkState := .ready }, link := { s.link with ddOut := false }, returned := none })

/-- R322: no operation moves the link state but along the listed edges; from any state to AwaitingToReceive only the master reset leads,
which leaves the whole controller as R350 says. -/
def Obligations.OnlyListedLinkTransitions : Prop :=
  ∀ (i : Instr) (s t : State), exec i s = .next t →
    t.z47.linkState = s.z47.linkState ∨ t.z47 = Z47.initial ∨
      linkEdge s.z47.linkState t.z47.linkState = true

/-- R327: outside a notification the controller is changed only by a host-side operation that raises DTAK or master reset: every
other operation leaves all of it as it was, RESET among them (R352). -/
def Obligations.ControllerActsOnlyWhenCalled : Prop :=
  ∀ (i : Instr) (s t : State), exec i s = .next t →
    (match i with
      | .tick _ => s.cfg.clocked = false
      | .setMr b => b = false
      | .setDtak b => b = false
      | .inp p => ∀ k, s.cfg.owner p = some k → k.dev ≠ .hif ∨ k.base = p
      | .out p v => ∀ k, s.cfg.owner p = some k → k.dev ≠ .hif ∨ (k.base = p ∧ v.getLsbD 1 = s.hif.mr)
      | .z47Cmd v => v.getLsbD 1 = s.hif.mr ∧ s.cfg.wired = true
      | .gppWr _ => s.cfg.wired = true
      | .gppRd => s.cfg.wired = true
      | .z47Stat => s.cfg.wired = true
      | .z47Din => False
      | .z47Dout _ => False
      | .z47Rsb => False
      | .z47Wsb => False
      | .z47Rcs => False
      | .z47Invalid _ => False
      | _ => True) →
    t.z47 = s.z47

/-! ### Z47 controller: commands -/

/-- R328, R329, R333: a Ready controller with no command asks for a byte, or starts the command of the byte it holds; ReadSectorsBuffered
and WriteSectorsBuffered then ask for the track. -/
def Obligations.ReadyControllerStartsCommands : Prop :=
  ∀ (s : State) (c : BitVec 16), s.cfg.clocked = true → s.z47.countDown = 0 → s.cfg.z47IntLevel < s.cfg.intLevels.val →
    s.cfg.host = some .card → s.RequestCurrent → s.z47.linkState = .ready → s.z47.ctrlState = .none →
    (s.z47.rxPending = false →
      exec (.tick c) s = .next { s with z47 := { s.z47 with linkState := .awaitingToReqReceive }, returned := none }) ∧
    (s.z47.rxPending = true → s.z47.rxByte = 0x07#8 ∨ (s.z47.rxByte ≠ 0x07#8 ∧ s.z47.rxByte = s.cfg.codes.cmdWsb) →
      exec (.tick c) s = .next (settleIrq { s with
        z47 := { s.z47 with
          rxPending := false, statePosition := 1, linkState := .awaitingToReqReceive
          ctrlState := if s.z47.rxByte = 0x07#8 then .readSectorsBuffered else .writeSectorsBuffered }
        link := { s.link with dtr := false, busy := true }
        returned := none }))

/-- R120 (d), R130, R293; the model's reading of a command word is log entry 8: a command word sends its byte as a data write does, and
an idle controller takes it, ready to start. -/
def Obligations.CommandWordsSendTheirByte : Prop :=
  ∀ (s : State) (b : Byte) (i : Instr), s.cfg.wired = true → s.cfg.z47IntLevel < s.cfg.intLevels.val →
    (i = .z47Rsb ∧ b = 0x07#8 ∨ i = .z47Wsb ∧ b = s.cfg.codes.cmdWsb ∨ i = .z47Rcs ∧ b = s.cfg.codes.cmdRcs ∨
      i = .z47Invalid b) →
    exec i s = exec (.z47Dout b) s ∧
    (s.z47.linkState = .awaitingToReceive →
      exec i s = .next (settleIrq { s with
        z47 := { s.z47 with rxByte := b, rxPending := true, linkState := .ready }
        link := { s.link with data := b, dataFromHost := false, dataFromDrive := false, dtr := false, dtak := false }
        log := if s.link.dataFromDrive = true then s.log ++ [.linkContention .host] else s.log
        returned := none }))

/-- R340, R341, R343, R344, with R326, R328, R329 and R332: a command word sent to an idle controller starts its command at the next
notification: RSB and WSB ask for the track byte, RCS has its status byte ready to send and the latches clear, another byte
latches invalidCommandReceived and has completed. -/
def Obligations.CommandWordsStartTheirCommand : Prop :=
  ∀ (s : State) (c : BitVec 16), s.cfg.ok = true → s.cfg.wired = true → s.z47.linkState = .awaitingToReceive →
    s.z47.ctrlState = .none → s.z47.countDown = 0 →
    (∃ t, runOps [.z47Rsb, .tick c] s = some (t, []) ∧ t.z47.ctrlState = .readSectorsBuffered ∧ t.z47.statePosition = 1 ∧
      t.z47.linkState = .awaitingToReqReceive ∧ t.link.busy = true ∧ t.link.dtr = false) ∧
    (∃ t, runOps [.z47Wsb, .tick c] s = some (t, []) ∧ t.z47.ctrlState = .writeSectorsBuffered ∧ t.z47.statePosition = 1 ∧
      t.z47.linkState = .awaitingToReqReceive ∧ t.link.busy = true ∧ t.link.dtr = false) ∧
    (∃ t, runOps [.z47Rcs, .tick c] s = some (t, []) ∧ t.z47.ctrlState = .readControllerStatus ∧ t.z47.statePosition = 1 ∧
      t.z47.linkState = .awaitingToTransmit ∧ t.z47.txByte = s.z47.err.statusByte s.cfg.statusBits ∧
      t.z47.err = ErrorLatches.clear ∧ t.link.error = false ∧ t.link.busy = true ∧ t.link.dtr = false) ∧
    (∀ b, s.cfg.codes.noCommand b = true →
      ∃ t, runOps [.z47Invalid b, .tick c] s = some (t, []) ∧ t.z47.ctrlState = .none ∧ t.z47.statePosition = 0 ∧
        t.z47.linkState = .awaitingReadyState ∧ t.z47.countDown = 120 ∧
        t.z47.err = { s.z47.err with invalidCommandReceived := true } ∧ t.link.error = true ∧ t.link.busy = false)

/-- R340, R385, R332: a data-phase step of an RSB takes the image byte at the transfer's offset and moves the cursor on; where nothing is
left it completes the command: Error shows the latches, Busy falls, the settle countdown is armed, and the latches and the
parameters keep their values. -/
def Obligations.ReadDataPhaseStep : Prop :=
  ∀ (s : State) (c : BitVec 16), s.cfg.clocked = true → s.z47.countDown = 0 → s.cfg.z47IntLevel < s.cfg.intLevels.val →
    s.cfg.host = some .card → s.RequestCurrent → s.z47.linkState = .ready → s.z47.ctrlState = .readSectorsBuffered →
    3 ≤ s.z47.statePosition →
    (1 ≤ s.z47.bytesToTransfer →
      exec (.tick c) s = .next { s with
        z47 := { s.z47 with
          rxPending := false, statePosition := s.z47.statePosition + 1, linkState := .awaitingToTransmit
          txByte := imageByte s s.z47.drive s.z47.offset, offset := s.z47.offset + 1
          bytesToTransfer := s.z47.bytesToTransfer - 1 }
        returned := none }) ∧
    (s.z47.bytesToTransfer = 0 →
      exec (.tick c) s = .next (settleIrq { s with
        z47 := { s.z47 with
          rxPending := false, ctrlState := .none, statePosition := 0, linkState := .awaitingReadyState, countDown := 120 }
        link := { s.link with busy := false, error := s.link.error || s.z47.err.any }
        returned := none }))

/-- R341, R105, R332: a data byte of a WSB is written to the image at the transfer's offset by the step that consumes it, and every other
image byte is as before; the next byte is asked for, or with the last one the command completes: Error shows the latches, Busy
falls, the settle countdown is armed, and the latches and the parameters keep their values. Nothing else changes. -/
def Obligations.WriteStoresTheNextImageByte : Prop :=
  ∀ (s : State) (c : BitVec 16), s.cfg.clocked = true → s.z47.countDown = 0 → s.z47.linkState = .ready →
    s.z47.ctrlState = .writeSectorsBuffered → 3 ≤ s.z47.statePosition → 1 ≤ s.z47.bytesToTransfer →
    s.Canonical → s.z47.drive.toNat < s.cfg.numDrives →
    ∃ t, exec (.tick c) s = .next t ∧
      (∀ d o, imageByte t d o = if d = s.z47.drive ∧ o = s.z47.offset then s.z47.rxByte else imageByte s d o) ∧
      (1 < s.z47.bytesToTransfer → t = { s with
        media := t.media
        z47 := { s.z47 with
          rxPending := false, statePosition := s.z47.statePosition + 1, linkState := .awaitingToReqReceive
          offset := s.z47.offset + 1, bytesToTransfer := s.z47.bytesToTransfer - 1 }
        returned := none }) ∧
      (s.z47.bytesToTransfer = 1 → t = { s with
        media := t.media
        z47 := { s.z47 with
          rxPending := false, ctrlState := .none, statePosition := 0, linkState := .awaitingReadyState, countDown := 120
          offset := s.z47.offset + 1, bytesToTransfer := 0 }
        link := { s.link with busy := false, error := s.link.error || s.z47.err.any }
        hif := t.hif, pending := t.pending, cpu := t.cpu, log := t.log, returned := none }) ∧
      (s.z47.bytesToTransfer = 1 → s.cfg.z47IntLevel < s.cfg.intLevels.val → s.cfg.host = some .card → s.RequestCurrent →
        t = settleIrq { s with
          media := t.media, z47 := t.z47, link := { s.link with busy := false, error := s.link.error || s.z47.err.any }
          returned := none })

/-- R340, R341, R132: position 2 takes the track byte whole and asks for the SDS byte. -/
def Obligations.TrackByteIsTakenWhole : Prop :=
  ∀ (s : State) (c : BitVec 16), s.cfg.clocked = true → s.z47.countDown = 0 → s.z47.linkState = .ready →
    s.z47.ctrlState = .readSectorsBuffered ∨ s.z47.ctrlState = .writeSectorsBuffered → s.z47.statePosition = 1 →
    exec (.tick c) s = .next { s with
      z47 := { s.z47 with
        rxPending := false, statePosition := 2, track := s.z47.rxByte, linkState := .awaitingToReqReceive }
      returned := none }

/-- R342, R133, R381: the checks of the SDS byte, in the rule's order. `setup` is the controller with the fields decoded; a failure
latches its error alone, and success computes the transfer. With one sector per transfer the overflow check cannot fail. They
run at position 3 of RSB and WSB on the byte received (R340, R341): a read that passes stays Ready, a write that passes asks for
its first data byte, and one that fails completes the command with Error high, Busy low, the settle countdown armed and the
latch kept (R330, R332). -/
def Obligations.ParametersAreCheckedInOrder : Prop :=
  (∀ (s : State) (val : Byte) (dir : Direction) (setup : Z47),
    setup = { s.z47 with side := val.getLsbD 7, drive := val.extractLsb' 5 2, sector := val.extractLsb' 0 5 } →
    let offset := setup.track.toNat * 3328 + (setup.sector.toNat - 1) * 128
    let bytes := setup.sectorCount * 128
    let absent := s.cfg.numDrives ≤ setup.drive.toNat ∨ s.cfg.drivePresent setup.drive = false
    let noRecord := 77 ≤ setup.track.toNat ∨ setup.sector.toNat < 1 ∨ 26 < setup.sector.toNat
    let overflow := 256256 < offset + bytes
    let locked := dir = .write ∧ s.cfg.driveProtected setup.drive = true
    (absent → checkParams val dir s =
      ({ s with z47 := { setup with err := { s.z47.err with driveNotReady := true } } }, false)) ∧
    (¬absent → noRecord → checkParams val dir s =
      ({ s with z47 := { setup with err := { s.z47.err with noRecordFound := true } } }, false)) ∧
    (¬absent → ¬noRecord → overflow → checkParams val dir s =
      ({ s with z47 := { setup with
          offset := offset, bytesToTransfer := bytes, err := { s.z47.err with badTrackOverflow := true } } }, false)) ∧
    (¬absent → ¬noRecord → ¬overflow → locked → checkParams val dir s =
      ({ s with z47 := { setup with
          offset := offset, bytesToTransfer := bytes, err := { s.z47.err with diskWriteProtected := true } } }, false)) ∧
    (¬absent → ¬noRecord → ¬overflow → ¬locked → checkParams val dir s =
      ({ s with z47 := { setup with offset := offset, bytesToTransfer := bytes } }, true)) ∧
    (s.z47.sectorCount = 1 → ¬noRecord → ¬overflow)) ∧
  (∀ (s : State) (c : BitVec 16) (dir : Direction) (r : State × Bool),
    s.cfg.clocked = true → s.z47.countDown = 0 → s.cfg.z47IntLevel < s.cfg.intLevels.val → s.cfg.host = some .card →
    s.RequestCurrent → s.z47.linkState = .ready → s.z47.statePosition = 2 →
    (s.z47.ctrlState = .readSectorsBuffered ∧ dir = .read ∨ s.z47.ctrlState = .writeSectorsBuffered ∧ dir = .write) →
    r = checkParams s.z47.rxByte dir { s with z47 := { s.z47 with rxPending := false, statePosition := 3 } } →
    (r.2 = true → exec (.tick c) s = .next { r.1 with
      z47 := { r.1.z47 with linkState := if dir = .read then .ready else .awaitingToReqReceive }
      returned := none }) ∧
    (r.2 = false → exec (.tick c) s = .next (settleIrq { r.1 with
      z47 := { r.1.z47 with ctrlState := .none, statePosition := 0, linkState := .awaitingReadyState, countDown := 120 }
      link := { s.link with busy := false, error := true }
      returned := none })))

/-- R343: ReadControllerStatus reports each latch on its own bit of the reference layout (R138), and its second position completes
without raising Error again. -/
def Obligations.StatusReportDrainsTheLatches : Prop :=
  (∀ e : ErrorLatches, ∃ b, e.statusByte StatusBits.reference = b ∧
    b.getLsbD 0 = e.driveNotReady ∧ b.getLsbD 1 = e.diskWriteProtected ∧ b.getLsbD 2 = e.deletedData ∧
    b.getLsbD 3 = e.noRecordFound ∧ b.getLsbD 4 = e.crcError ∧ b.getLsbD 5 = e.lateData ∧
    b.getLsbD 6 = e.invalidCommandReceived ∧ b.getLsbD 7 = e.badTrackOverflow) ∧
  (∀ (s : State) (c1 c2 c3 c4 c5 : BitVec 16), s.cfg.ok = true → s.cfg.wired = true → s.z47.linkState = .ready →
    s.z47.ctrlState = .none → s.z47.countDown = 0 → s.z47.rxPending = true → s.z47.rxByte = s.cfg.codes.cmdRcs →
    ∃ t, runOps [.tick c1, .tick c2, .z47Din, .tick c3, .tick c4, .tick c5] s =
        some (t, [s.z47.err.statusByte s.cfg.statusBits]) ∧
      t.z47.err = ErrorLatches.clear ∧ t.link.error = false ∧ t.link.busy = false ∧ t.z47.ctrlState = .none ∧
      t.z47.linkState = .awaitingReadyState ∧ t.z47.countDown = 120)

/-- R331, R353, R354: a latch once set is cleared by nothing but the start of an RCS and a master reset, and deletedData, crcError and
lateData are set by nothing. A command that runs is never at position 0 (`StepKeepsSequencerLegal`). -/
def Obligations.LatchesAccumulate : Prop :=
  ∀ (i : Instr) (s t : State), exec i s = .next t → (s.z47.ctrlState ≠ .none → 1 ≤ s.z47.statePosition) →
    ((t.z47.err.deletedData = true → s.z47.err.deletedData = true) ∧ (t.z47.err.crcError = true → s.z47.err.crcError = true) ∧
      (t.z47.err.lateData = true → s.z47.err.lateData = true)) ∧
    (t.z47 = Z47.initial ∨ (s.z47.ctrlState = .none ∧ t.z47.ctrlState = .readControllerStatus) ∨
      ((s.z47.err.driveNotReady = true → t.z47.err.driveNotReady = true) ∧
       (s.z47.err.diskWriteProtected = true → t.z47.err.diskWriteProtected = true) ∧
       (s.z47.err.deletedData = true → t.z47.err.deletedData = true) ∧
       (s.z47.err.noRecordFound = true → t.z47.err.noRecordFound = true) ∧
       (s.z47.err.crcError = true → t.z47.err.crcError = true) ∧
       (s.z47.err.lateData = true → t.z47.err.lateData = true) ∧
       (s.z47.err.invalidCommandReceived = true → t.z47.err.invalidCommandReceived = true) ∧
       (s.z47.err.badTrackOverflow = true → t.z47.err.badTrackOverflow = true)))

/-- R45, R46, R48, R49, R334, R356, R381: where the controller can be in its sequence, after every step. -/
def Obligations.StepKeepsSequencerLegal : Prop :=
  ∀ s t : State, s.SequencerLegal → s.Canonical → step s = .next t → t.SequencerLegal

/-- R340, R345, R323: from the start of its data phase an RSB hands the host exactly the bytes of the image from the transfer's offset
on, in ascending order, one for every four notifications and one data read, whatever the notifications' cycle counts; the image
is as before. -/
def Obligations.ReadStreamsTheImageInOrder : Prop :=
  ∀ (n : Nat) (s : State) (c1 c2 c3 c4 : BitVec 16), s.cfg.ok = true → s.cfg.wired = true → s.z47.countDown = 0 →
    s.z47.linkState = .ready → s.z47.ctrlState = .readSectorsBuffered → 3 ≤ s.z47.statePosition → n ≤ s.z47.bytesToTransfer →
    ∃ t, runOps (repeatOps n (readByteOps c1 c2 c3 c4)) s =
        some (t, (List.range n).map fun k => imageByte s s.z47.drive (s.z47.offset + k)) ∧
      t.media = s.media ∧ t.z47.linkState = .ready ∧ t.z47.ctrlState = .readSectorsBuffered ∧
      t.z47.statePosition = s.z47.statePosition + n ∧ t.z47.offset = s.z47.offset + n ∧
      t.z47.bytesToTransfer = s.z47.bytesToTransfer - n

/-- R341, R345, R105: in its data phase a WSB puts the bytes the host writes into the image from the transfer's offset on, in the order
written, and into no other place. -/
def Obligations.WriteStoresTheBytesInOrder : Prop :=
  ∀ (vs : List Byte) (s : State) (c1 c2 : BitVec 16), s.cfg.ok = true → s.cfg.wired = true → s.Canonical →
    s.z47.drive.toNat < s.cfg.numDrives → s.z47.countDown = 0 → s.z47.linkState = .awaitingToReqReceive →
    s.z47.ctrlState = .writeSectorsBuffered → 3 ≤ s.z47.statePosition → vs.length ≤ s.z47.bytesToTransfer →
    ∃ t, runOps (vs.flatMap (writeByteOps c1 c2)) s = some (t, []) ∧
      (∀ d o, imageByte t d o =
        if d = s.z47.drive ∧ s.z47.offset ≤ o ∧ o < s.z47.offset + vs.length then vs.getD (o - s.z47.offset) 0#8
        else imageByte s d o) ∧
      t.z47.offset = s.z47.offset + vs.length ∧ t.z47.bytesToTransfer = s.z47.bytesToTransfer - vs.length

/-! ### Reset and power-on -/

/-- R166, R431, R433: what RESET reaches and what it leaves; the request, if raised, is lowered on the way. -/
def Obligations.ResetReachesWhatTheSpecLists : Prop :=
  ∀ s : State, s.cfg.ok = true → s.cfg.wired = true →
    exec .reset s = .next { s with
      dec := ⟨match s.cfg.variant with
        | .h88 => 0x00#8
        | .h89 => s.cfg.h89Org0Mask
        | .mms77318 => s.cfg.mmsUnlockMask ||| s.cfg.h89Org0Mask, 0, 0⟩
      gpp := 0x00#8
      pending := 0x00#8
      link := { s.link with masterReset := false, dtak := false }
      hif := ⟨false, false, false, false⟩
      cpu := if s.hif.irq = true then s.cpu ++ [.lowerInt s.cfg.z47IntLevel] else s.cpu
      returned := none }

/-- R430, R58 to R62: power-on, from any configuration, any bytes of memory and any images. The values of the model's own fields are
its choice: `ops` empty (log entry 1), `returned` and `cpu` empty (log entry 3), `draws` 0 (log entry 6); the H88's and the H89's
lock state 0 is log entry 12. `State.reset` is power-on of the reference H89 with every byte 0 (the model's choice, log entries 4
and 7). -/
def Obligations.PowerOnLeavesTheInitialState : Prop :=
  (∀ (c : Config) (mem : Memory) (media : List Memory),
    powerOn c mem media = {
      cfg := c, mem := mem, media := media
      dec := ⟨match c.variant with
        | .h88 => 0x00#8
        | .h89 => c.h89Org0Mask
        | .mms77318 => c.mmsUnlockMask ||| c.h89Org0Mask, 0, 0⟩
      gpp := 0x00#8, pending := 0x00#8
      link := {
        data := 0x00#8, dataFromHost := false, dataFromDrive := false, busy := false, dtr := true, masterReset := false,
        ddOut := false, dtak := false, error := false }
      hif := ⟨false, false, false, false⟩
      z47 := {
        linkState := .awaitingToReceive, ctrlState := .none, countDown := 0, statePosition := 0, side := false, drive := 0#2,
        track := 0#8, sector := 0#5, offset := 0, bytesToTransfer := 0, sectorCount := 1, txByte := 0#8, rxByte := 0#8,
        rxPending := false, err := ⟨false, false, false, false, false, false, false, false⟩, readyChanged0 := true,
        readyChanged1 := true }
      log := [], cpu := [], returned := none, draws := 0, ops := [] }) ∧
  State.reset = powerOn (Config.reference .h89) [] [[], []]

/-- The state after reset is legal and every invariant holds of it. Its configuration and its bytes are the model's choice (log entries 4
and 7), so that its configuration is legal and wired is said of that choice. -/
def Obligations.ResetStateIsLegal : Prop :=
  State.reset.cfg.ok = true ∧ State.reset.cfg.wired = true ∧ State.reset.Canonical ∧ State.reset.DecoderLegal ∧
    State.reset.FlagsExclusive ∧ State.reset.RequestCurrent ∧ State.reset.SequencerLegal

/-! ### The log and the build-time calls -/

/-- R53, R402: the log is append-only, and one operation appends at most one entry. -/
def Obligations.OneLogEntryPerOperation : Prop :=
  ∀ (i : Instr) (s t : State), s.cfg.ok = true → exec i s = .next t → ∃ es, t.log = s.log ++ es ∧ es.length ≤ 1

/-- R172, R173: a claim that is empty, too long or in conflict fails, is logged, and leaves the owner of every port as it was; another
one gives the device exactly the ports it names. -/
def Obligations.AddDeviceIsAllOrNothing : Prop :=
  ∀ (b : Build) (dev : Device) (base : Port) (n : Nat),
    ((n = 0 ∨ 256 < base.toNat + n ∨
        ∃ q : Port, base.toNat ≤ q.toNat ∧ q.toNat < base.toNat + n ∧ b.cfg.owner q ≠ none) →
      (∀ k ∈ b.cfg.claims, 0 < k.count ∧ k.base.toNat + k.count ≤ 256) →
      b.addDevice dev base n = ({ b with log := b.log ++ [.portConflict dev base n] }, false)) ∧
    (n ≠ 0 → base.toNat + n ≤ 256 →
      (∀ q : Port, base.toNat ≤ q.toNat → q.toNat < base.toNat + n → b.cfg.owner q = none) →
      (∀ k ∈ b.cfg.claims, 0 < k.count ∧ k.base.toNat + k.count ≤ 256) →
      (b.addDevice dev base n).2 = true ∧
      ∀ q : Port, (b.addDevice dev base n).1.cfg.owner q =
        if base.toNat ≤ q.toNat ∧ q.toNat < base.toNat + n then some ⟨dev, base, n⟩ else b.cfg.owner q)

/-- R170, R171, R272, R273, R90, R434: a layout out of range is logged and installs nothing; one in range fills the eight slots of its bank
alone; a page goes into the slot its base names; a second registration is logged and overwrites; a ROM image loads only with
2048 or 4096 bytes, and then at its place alone; no build-time call is legal once the system runs. What a layout of another
length, a page for a bank of N_BANKS or more, and an image that its page does not take do is the model's choice (log entries 27
and 28). -/
def Obligations.BuildCallsDoWhatTheySay : Prop :=
  (∀ (b : Build) (i : Nat) (l : List Nat), b.cfg.nBanks ≤ i → b.addLayout i l = { b with log := b.log ++ [.layoutIndexRange i] }) ∧
  (∀ (b : Build) (i j : Nat) (l : List Nat) (s : BitVec 3), i < b.cfg.nBanks → j < b.cfg.nBanks →
    (b.addLayout i l).cfg.layoutPage j s = (if j = i then l.getD s.toNat 0 else b.cfg.layoutPage j s) ∧
    b.addLayout i l = { b with cfg := { b.cfg with layouts := (b.addLayout i l).cfg.layouts } }) ∧
  (∀ (b : Build) (k p j : Nat) (s : BitVec 3), k < b.cfg.nBanks → j < b.cfg.nBanks →
    (b.addPage k p).cfg.layoutPage j s =
      (if j = k ∧ s = (b.cfg.page p).base.extractLsb' 13 3 then p else b.cfg.layoutPage j s) ∧
    b.addPage k p = { b with cfg := { b.cfg with layouts := (b.addPage k p).cfg.layouts } }) ∧
  (∀ (b : Build) (k p : Nat), b.cfg.nBanks ≤ k → b.addPage k p = b) ∧
  (∀ (b : Build) (page off : Nat) (image : List Byte),
    (image.length ≠ 2048 → image.length ≠ 4096 → b.loadRom page off image = (b, false)) ∧
    ((b.cfg.kind page = .ram ∨ b.cfg.kind page = .nil) → b.loadRom page off image = (b, false)) ∧
    (8192 < off + image.length → b.loadRom page off image = (b, false)) ∧
    (image.length = 2048 ∨ image.length = 4096 → off + image.length ≤ 8192 →
      (b.cfg.kind page = .rom ∨ ∃ ro ins shadow, b.cfg.kind page = .wur ro ins shadow) → b.mem.wf = true →
      ∃ m, b.loadRom page off image = ({ b with mem := m }, true) ∧ m.wf = true ∧
        ∀ (p : Nat) (o : PageOffset), m.read (pageKey p o) =
          if p = page ∧ off ≤ o.toNat ∧ o.toNat < off + image.length then image.getD (o.toNat - off) 0#8
          else b.mem.read (pageKey p o))) ∧
  (∀ (b : Build) (h : HostPeer), (b.registerHost h).cfg = { b.cfg with host := some h } ∧
    (b.registerHost h).log = if b.cfg.host = none then b.log else b.log ++ [.doubleRegistration .host]) ∧
  (∀ (b : Build) (d : DevicePeer), (b.registerDevice d).cfg = { b.cfg with device := some d } ∧
    (b.registerDevice d).log = if b.cfg.device = none then b.log else b.log ++ [.doubleRegistration .device]) ∧
  (∀ (s : State) (c : BuildCall), System.build c (.running s) = .refused .buildAfterPowerOn)
end

