-- ==== Sys2Proof/Laws/Bank.lean ====
section
/-! SUPPORT. The bank number: its bound, and that only live bits count. -/

namespace Sys2Proof.Machine

/-- Gathering the bits at some positions gives a number below the power of two of the live ones among them. -/
theorem gatherBits_lt (v m : Byte) (l : List Nat) : gatherBits v m l < 2 ^ (l.filter fun i => m.getLsbD i).length := by
  induction l with
  | nil => simp [gatherBits]
  | cons i l ih =>
    unfold gatherBits
    by_cases h : m.getLsbD i
    · simp only [h, if_true, List.filter_cons, List.length_cons, pow_succ]
      have := Bool.toNat_lt (v.getLsbD i)
      omega
    · simp [h, ih]

/-- A bank number is below the power of two of the mask's live bits (R10, R11). -/
theorem pext_lt (v m : Byte) : pext v m < 2 ^ popcount m := gatherBits_lt v m _

/-- Only the live bits of the byte count (R11). -/
theorem pext_congr {v w m : Byte} (h : v &&& m = w &&& m) : pext v m = pext w m := by
  have key (l : List Nat) : gatherBits v m l = gatherBits w m l := by
    induction l with
    | nil => rfl
    | cons i l ih =>
      unfold gatherBits
      rw [ih]
      split
      · rename_i hm
        have hb := congrArg (fun x => x.getLsbD i) h
        simp only [BitVec.getLsbD_and, hm, Bool.and_true] at hb
        rw [hb]
      · rfl
  exact key _

end Sys2Proof.Machine
end

