-- ==== Sys2Proof/Laws/State.lean ====
section
/-! SUPPORT. One lemma per field per update of State, each true by rfl: later proofs unfold no record update. -/

namespace Sys2Proof.Machine

variable (s : State)

section SetMem
variable (x : Memory)
@[simp] theorem State.setMem_cfg : (s.setMem x).cfg = s.cfg := rfl
@[simp] theorem State.setMem_mem : (s.setMem x).mem = x := rfl
@[simp] theorem State.setMem_dec : (s.setMem x).dec = s.dec := rfl
@[simp] theorem State.setMem_gpp : (s.setMem x).gpp = s.gpp := rfl
@[simp] theorem State.setMem_pending : (s.setMem x).pending = s.pending := rfl
@[simp] theorem State.setMem_link : (s.setMem x).link = s.link := rfl
@[simp] theorem State.setMem_hif : (s.setMem x).hif = s.hif := rfl
@[simp] theorem State.setMem_z47 : (s.setMem x).z47 = s.z47 := rfl
@[simp] theorem State.setMem_media : (s.setMem x).media = s.media := rfl
@[simp] theorem State.setMem_log : (s.setMem x).log = s.log := rfl
@[simp] theorem State.setMem_cpu : (s.setMem x).cpu = s.cpu := rfl
@[simp] theorem State.setMem_returned : (s.setMem x).returned = s.returned := rfl
@[simp] theorem State.setMem_draws : (s.setMem x).draws = s.draws := rfl
@[simp] theorem State.setMem_ops : (s.setMem x).ops = s.ops := rfl
end SetMem

section SetDec
variable (x : Decoder)
@[simp] theorem State.setDec_cfg : (s.setDec x).cfg = s.cfg := rfl
@[simp] theorem State.setDec_mem : (s.setDec x).mem = s.mem := rfl
@[simp] theorem State.setDec_dec : (s.setDec x).dec = x := rfl
@[simp] theorem State.setDec_gpp : (s.setDec x).gpp = s.gpp := rfl
@[simp] theorem State.setDec_pending : (s.setDec x).pending = s.pending := rfl
@[simp] theorem State.setDec_link : (s.setDec x).link = s.link := rfl
@[simp] theorem State.setDec_hif : (s.setDec x).hif = s.hif := rfl
@[simp] theorem State.setDec_z47 : (s.setDec x).z47 = s.z47 := rfl
@[simp] theorem State.setDec_media : (s.setDec x).media = s.media := rfl
@[simp] theorem State.setDec_log : (s.setDec x).log = s.log := rfl
@[simp] theorem State.setDec_cpu : (s.setDec x).cpu = s.cpu := rfl
@[simp] theorem State.setDec_returned : (s.setDec x).returned = s.returned := rfl
@[simp] theorem State.setDec_draws : (s.setDec x).draws = s.draws := rfl
@[simp] theorem State.setDec_ops : (s.setDec x).ops = s.ops := rfl
end SetDec

section SetGpp
variable (x : Byte)
@[simp] theorem State.setGpp_cfg : (s.setGpp x).cfg = s.cfg := rfl
@[simp] theorem State.setGpp_mem : (s.setGpp x).mem = s.mem := rfl
@[simp] theorem State.setGpp_dec : (s.setGpp x).dec = s.dec := rfl
@[simp] theorem State.setGpp_gpp : (s.setGpp x).gpp = x := rfl
@[simp] theorem State.setGpp_pending : (s.setGpp x).pending = s.pending := rfl
@[simp] theorem State.setGpp_link : (s.setGpp x).link = s.link := rfl
@[simp] theorem State.setGpp_hif : (s.setGpp x).hif = s.hif := rfl
@[simp] theorem State.setGpp_z47 : (s.setGpp x).z47 = s.z47 := rfl
@[simp] theorem State.setGpp_media : (s.setGpp x).media = s.media := rfl
@[simp] theorem State.setGpp_log : (s.setGpp x).log = s.log := rfl
@[simp] theorem State.setGpp_cpu : (s.setGpp x).cpu = s.cpu := rfl
@[simp] theorem State.setGpp_returned : (s.setGpp x).returned = s.returned := rfl
@[simp] theorem State.setGpp_draws : (s.setGpp x).draws = s.draws := rfl
@[simp] theorem State.setGpp_ops : (s.setGpp x).ops = s.ops := rfl
end SetGpp

section SetPending
variable (x : Byte)
@[simp] theorem State.setPending_cfg : (s.setPending x).cfg = s.cfg := rfl
@[simp] theorem State.setPending_mem : (s.setPending x).mem = s.mem := rfl
@[simp] theorem State.setPending_dec : (s.setPending x).dec = s.dec := rfl
@[simp] theorem State.setPending_gpp : (s.setPending x).gpp = s.gpp := rfl
@[simp] theorem State.setPending_pending : (s.setPending x).pending = x := rfl
@[simp] theorem State.setPending_link : (s.setPending x).link = s.link := rfl
@[simp] theorem State.setPending_hif : (s.setPending x).hif = s.hif := rfl
@[simp] theorem State.setPending_z47 : (s.setPending x).z47 = s.z47 := rfl
@[simp] theorem State.setPending_media : (s.setPending x).media = s.media := rfl
@[simp] theorem State.setPending_log : (s.setPending x).log = s.log := rfl
@[simp] theorem State.setPending_cpu : (s.setPending x).cpu = s.cpu := rfl
@[simp] theorem State.setPending_returned : (s.setPending x).returned = s.returned := rfl
@[simp] theorem State.setPending_draws : (s.setPending x).draws = s.draws := rfl
@[simp] theorem State.setPending_ops : (s.setPending x).ops = s.ops := rfl
end SetPending

section SetLink
variable (x : Link)
@[simp] theorem State.setLink_cfg : (s.setLink x).cfg = s.cfg := rfl
@[simp] theorem State.setLink_mem : (s.setLink x).mem = s.mem := rfl
@[simp] theorem State.setLink_dec : (s.setLink x).dec = s.dec := rfl
@[simp] theorem State.setLink_gpp : (s.setLink x).gpp = s.gpp := rfl
@[simp] theorem State.setLink_pending : (s.setLink x).pending = s.pending := rfl
@[simp] theorem State.setLink_link : (s.setLink x).link = x := rfl
@[simp] theorem State.setLink_hif : (s.setLink x).hif = s.hif := rfl
@[simp] theorem State.setLink_z47 : (s.setLink x).z47 = s.z47 := rfl
@[simp] theorem State.setLink_media : (s.setLink x).media = s.media := rfl
@[simp] theorem State.setLink_log : (s.setLink x).log = s.log := rfl
@[simp] theorem State.setLink_cpu : (s.setLink x).cpu = s.cpu := rfl
@[simp] theorem State.setLink_returned : (s.setLink x).returned = s.returned := rfl
@[simp] theorem State.setLink_draws : (s.setLink x).draws = s.draws := rfl
@[simp] theorem State.setLink_ops : (s.setLink x).ops = s.ops := rfl
end SetLink

section SetHif
variable (x : Hif)
@[simp] theorem State.setHif_cfg : (s.setHif x).cfg = s.cfg := rfl
@[simp] theorem State.setHif_mem : (s.setHif x).mem = s.mem := rfl
@[simp] theorem State.setHif_dec : (s.setHif x).dec = s.dec := rfl
@[simp] theorem State.setHif_gpp : (s.setHif x).gpp = s.gpp := rfl
@[simp] theorem State.setHif_pending : (s.setHif x).pending = s.pending := rfl
@[simp] theorem State.setHif_link : (s.setHif x).link = s.link := rfl
@[simp] theorem State.setHif_hif : (s.setHif x).hif = x := rfl
@[simp] theorem State.setHif_z47 : (s.setHif x).z47 = s.z47 := rfl
@[simp] theorem State.setHif_media : (s.setHif x).media = s.media := rfl
@[simp] theorem State.setHif_log : (s.setHif x).log = s.log := rfl
@[simp] theorem State.setHif_cpu : (s.setHif x).cpu = s.cpu := rfl
@[simp] theorem State.setHif_returned : (s.setHif x).returned = s.returned := rfl
@[simp] theorem State.setHif_draws : (s.setHif x).draws = s.draws := rfl
@[simp] theorem State.setHif_ops : (s.setHif x).ops = s.ops := rfl
end SetHif

section SetZ47
variable (x : Z47)
@[simp] theorem State.setZ47_cfg : (s.setZ47 x).cfg = s.cfg := rfl
@[simp] theorem State.setZ47_mem : (s.setZ47 x).mem = s.mem := rfl
@[simp] theorem State.setZ47_dec : (s.setZ47 x).dec = s.dec := rfl
@[simp] theorem State.setZ47_gpp : (s.setZ47 x).gpp = s.gpp := rfl
@[simp] theorem State.setZ47_pending : (s.setZ47 x).pending = s.pending := rfl
@[simp] theorem State.setZ47_link : (s.setZ47 x).link = s.link := rfl
@[simp] theorem State.setZ47_hif : (s.setZ47 x).hif = s.hif := rfl
@[simp] theorem State.setZ47_z47 : (s.setZ47 x).z47 = x := rfl
@[simp] theorem State.setZ47_media : (s.setZ47 x).media = s.media := rfl
@[simp] theorem State.setZ47_log : (s.setZ47 x).log = s.log := rfl
@[simp] theorem State.setZ47_cpu : (s.setZ47 x).cpu = s.cpu := rfl
@[simp] theorem State.setZ47_returned : (s.setZ47 x).returned = s.returned := rfl
@[simp] theorem State.setZ47_draws : (s.setZ47 x).draws = s.draws := rfl
@[simp] theorem State.setZ47_ops : (s.setZ47 x).ops = s.ops := rfl
end SetZ47

section SetMedia
variable (x : List Memory)
@[simp] theorem State.setMedia_cfg : (s.setMedia x).cfg = s.cfg := rfl
@[simp] theorem State.setMedia_mem : (s.setMedia x).mem = s.mem := rfl
@[simp] theorem State.setMedia_dec : (s.setMedia x).dec = s.dec := rfl
@[simp] theorem State.setMedia_gpp : (s.setMedia x).gpp = s.gpp := rfl
@[simp] theorem State.setMedia_pending : (s.setMedia x).pending = s.pending := rfl
@[simp] theorem State.setMedia_link : (s.setMedia x).link = s.link := rfl
@[simp] theorem State.setMedia_hif : (s.setMedia x).hif = s.hif := rfl
@[simp] theorem State.setMedia_z47 : (s.setMedia x).z47 = s.z47 := rfl
@[simp] theorem State.setMedia_media : (s.setMedia x).media = x := rfl
@[simp] theorem State.setMedia_log : (s.setMedia x).log = s.log := rfl
@[simp] theorem State.setMedia_cpu : (s.setMedia x).cpu = s.cpu := rfl
@[simp] theorem State.setMedia_returned : (s.setMedia x).returned = s.returned := rfl
@[simp] theorem State.setMedia_draws : (s.setMedia x).draws = s.draws := rfl
@[simp] theorem State.setMedia_ops : (s.setMedia x).ops = s.ops := rfl
end SetMedia

section SetLog
variable (x : List LogEntry)
@[simp] theorem State.setLog_cfg : (s.setLog x).cfg = s.cfg := rfl
@[simp] theorem State.setLog_mem : (s.setLog x).mem = s.mem := rfl
@[simp] theorem State.setLog_dec : (s.setLog x).dec = s.dec := rfl
@[simp] theorem State.setLog_gpp : (s.setLog x).gpp = s.gpp := rfl
@[simp] theorem State.setLog_pending : (s.setLog x).pending = s.pending := rfl
@[simp] theorem State.setLog_link : (s.setLog x).link = s.link := rfl
@[simp] theorem State.setLog_hif : (s.setLog x).hif = s.hif := rfl
@[simp] theorem State.setLog_z47 : (s.setLog x).z47 = s.z47 := rfl
@[simp] theorem State.setLog_media : (s.setLog x).media = s.media := rfl
@[simp] theorem State.setLog_log : (s.setLog x).log = x := rfl
@[simp] theorem State.setLog_cpu : (s.setLog x).cpu = s.cpu := rfl
@[simp] theorem State.setLog_returned : (s.setLog x).returned = s.returned := rfl
@[simp] theorem State.setLog_draws : (s.setLog x).draws = s.draws := rfl
@[simp] theorem State.setLog_ops : (s.setLog x).ops = s.ops := rfl
end SetLog

section SetCpu
variable (x : List CpuCall)
@[simp] theorem State.setCpu_cfg : (s.setCpu x).cfg = s.cfg := rfl
@[simp] theorem State.setCpu_mem : (s.setCpu x).mem = s.mem := rfl
@[simp] theorem State.setCpu_dec : (s.setCpu x).dec = s.dec := rfl
@[simp] theorem State.setCpu_gpp : (s.setCpu x).gpp = s.gpp := rfl
@[simp] theorem State.setCpu_pending : (s.setCpu x).pending = s.pending := rfl
@[simp] theorem State.setCpu_link : (s.setCpu x).link = s.link := rfl
@[simp] theorem State.setCpu_hif : (s.setCpu x).hif = s.hif := rfl
@[simp] theorem State.setCpu_z47 : (s.setCpu x).z47 = s.z47 := rfl
@[simp] theorem State.setCpu_media : (s.setCpu x).media = s.media := rfl
@[simp] theorem State.setCpu_log : (s.setCpu x).log = s.log := rfl
@[simp] theorem State.setCpu_cpu : (s.setCpu x).cpu = x := rfl
@[simp] theorem State.setCpu_returned : (s.setCpu x).returned = s.returned := rfl
@[simp] theorem State.setCpu_draws : (s.setCpu x).draws = s.draws := rfl
@[simp] theorem State.setCpu_ops : (s.setCpu x).ops = s.ops := rfl
end SetCpu

section SetReturned
variable (x : Option Byte)
@[simp] theorem State.setReturned_cfg : (s.setReturned x).cfg = s.cfg := rfl
@[simp] theorem State.setReturned_mem : (s.setReturned x).mem = s.mem := rfl
@[simp] theorem State.setReturned_dec : (s.setReturned x).dec = s.dec := rfl
@[simp] theorem State.setReturned_gpp : (s.setReturned x).gpp = s.gpp := rfl
@[simp] theorem State.setReturned_pending : (s.setReturned x).pending = s.pending := rfl
@[simp] theorem State.setReturned_link : (s.setReturned x).link = s.link := rfl
@[simp] theorem State.setReturned_hif : (s.setReturned x).hif = s.hif := rfl
@[simp] theorem State.setReturned_z47 : (s.setReturned x).z47 = s.z47 := rfl
@[simp] theorem State.setReturned_media : (s.setReturned x).media = s.media := rfl
@[simp] theorem State.setReturned_log : (s.setReturned x).log = s.log := rfl
@[simp] theorem State.setReturned_cpu : (s.setReturned x).cpu = s.cpu := rfl
@[simp] theorem State.setReturned_returned : (s.setReturned x).returned = x := rfl
@[simp] theorem State.setReturned_draws : (s.setReturned x).draws = s.draws := rfl
@[simp] theorem State.setReturned_ops : (s.setReturned x).ops = s.ops := rfl
end SetReturned

section SetDraws
variable (x : Nat)
@[simp] theorem State.setDraws_cfg : (s.setDraws x).cfg = s.cfg := rfl
@[simp] theorem State.setDraws_mem : (s.setDraws x).mem = s.mem := rfl
@[simp] theorem State.setDraws_dec : (s.setDraws x).dec = s.dec := rfl
@[simp] theorem State.setDraws_gpp : (s.setDraws x).gpp = s.gpp := rfl
@[simp] theorem State.setDraws_pending : (s.setDraws x).pending = s.pending := rfl
@[simp] theorem State.setDraws_link : (s.setDraws x).link = s.link := rfl
@[simp] theorem State.setDraws_hif : (s.setDraws x).hif = s.hif := rfl
@[simp] theorem State.setDraws_z47 : (s.setDraws x).z47 = s.z47 := rfl
@[simp] theorem State.setDraws_media : (s.setDraws x).media = s.media := rfl
@[simp] theorem State.setDraws_log : (s.setDraws x).log = s.log := rfl
@[simp] theorem State.setDraws_cpu : (s.setDraws x).cpu = s.cpu := rfl
@[simp] theorem State.setDraws_returned : (s.setDraws x).returned = s.returned := rfl
@[simp] theorem State.setDraws_draws : (s.setDraws x).draws = x := rfl
@[simp] theorem State.setDraws_ops : (s.setDraws x).ops = s.ops := rfl
end SetDraws

section SetOps
variable (x : List OpWord)
@[simp] theorem State.setOps_cfg : (s.setOps x).cfg = s.cfg := rfl
@[simp] theorem State.setOps_mem : (s.setOps x).mem = s.mem := rfl
@[simp] theorem State.setOps_dec : (s.setOps x).dec = s.dec := rfl
@[simp] theorem State.setOps_gpp : (s.setOps x).gpp = s.gpp := rfl
@[simp] theorem State.setOps_pending : (s.setOps x).pending = s.pending := rfl
@[simp] theorem State.setOps_link : (s.setOps x).link = s.link := rfl
@[simp] theorem State.setOps_hif : (s.setOps x).hif = s.hif := rfl
@[simp] theorem State.setOps_z47 : (s.setOps x).z47 = s.z47 := rfl
@[simp] theorem State.setOps_media : (s.setOps x).media = s.media := rfl
@[simp] theorem State.setOps_log : (s.setOps x).log = s.log := rfl
@[simp] theorem State.setOps_cpu : (s.setOps x).cpu = s.cpu := rfl
@[simp] theorem State.setOps_returned : (s.setOps x).returned = s.returned := rfl
@[simp] theorem State.setOps_draws : (s.setOps x).draws = s.draws := rfl
@[simp] theorem State.setOps_ops : (s.setOps x).ops = x := rfl
end SetOps

end Sys2Proof.Machine
end

