-- ==== Sys2Proof/Laws/OpsFrame.lean ====
section
/-! SUPPORT. What the shared operations of Machine/Ops.lean leave alone: one lemma for each operation. -/

namespace Sys2Proof.Machine

variable (s : State)

@[simp] theorem State.logged_frame (e : LogEntry) :
    (s.logged e).cfg = s.cfg ∧ (s.logged e).mem = s.mem ∧ (s.logged e).dec = s.dec ∧ (s.logged e).gpp = s.gpp ∧
    (s.logged e).pending = s.pending ∧ (s.logged e).link = s.link ∧ (s.logged e).hif = s.hif ∧
    (s.logged e).z47 = s.z47 ∧ (s.logged e).media = s.media ∧ (s.logged e).cpu = s.cpu ∧
    (s.logged e).returned = s.returned ∧ (s.logged e).draws = s.draws ∧ (s.logged e).ops = s.ops := by
  simp [State.logged]

@[simp] theorem State.called_frame (c : CpuCall) :
    (s.called c).cfg = s.cfg ∧ (s.called c).mem = s.mem ∧ (s.called c).dec = s.dec ∧ (s.called c).gpp = s.gpp ∧
    (s.called c).pending = s.pending ∧ (s.called c).link = s.link ∧ (s.called c).hif = s.hif ∧
    (s.called c).z47 = s.z47 ∧ (s.called c).media = s.media ∧ (s.called c).log = s.log ∧
    (s.called c).returned = s.returned ∧ (s.called c).draws = s.draws ∧ (s.called c).ops = s.ops := by
  simp [State.called]

@[simp] theorem State.putPageByte_frame (p : Nat) (off : PageOffset) (v : Byte) :
    (s.putPageByte p off v).cfg = s.cfg ∧ (s.putPageByte p off v).dec = s.dec ∧ (s.putPageByte p off v).gpp = s.gpp ∧
    (s.putPageByte p off v).pending = s.pending ∧ (s.putPageByte p off v).link = s.link ∧
    (s.putPageByte p off v).hif = s.hif ∧ (s.putPageByte p off v).z47 = s.z47 ∧
    (s.putPageByte p off v).media = s.media ∧ (s.putPageByte p off v).log = s.log ∧
    (s.putPageByte p off v).cpu = s.cpu ∧ (s.putPageByte p off v).returned = s.returned ∧
    (s.putPageByte p off v).draws = s.draws ∧ (s.putPageByte p off v).ops = s.ops := by
  simp [State.putPageByte]

@[simp] theorem shadowWrite_frame (p : Nat) (off : PageOffset) (v : Byte) :
    (shadowWrite p off v s).cfg = s.cfg ∧ (shadowWrite p off v s).dec = s.dec ∧ (shadowWrite p off v s).gpp = s.gpp ∧
    (shadowWrite p off v s).pending = s.pending ∧ (shadowWrite p off v s).link = s.link ∧
    (shadowWrite p off v s).hif = s.hif ∧ (shadowWrite p off v s).z47 = s.z47 ∧
    (shadowWrite p off v s).media = s.media ∧ (shadowWrite p off v s).log = s.log ∧
    (shadowWrite p off v s).cpu = s.cpu ∧ (shadowWrite p off v s).returned = s.returned ∧
    (shadowWrite p off v s).draws = s.draws ∧ (shadowWrite p off v s).ops = s.ops := by
  unfold shadowWrite; split <;> simp

@[simp] theorem wurWrite_frame (ro ins : Byte) (sh p : Nat) (off : PageOffset) (v : Byte) :
    (wurWrite ro ins sh p off v s).cfg = s.cfg ∧ (wurWrite ro ins sh p off v s).dec = s.dec ∧
    (wurWrite ro ins sh p off v s).gpp = s.gpp ∧ (wurWrite ro ins sh p off v s).pending = s.pending ∧
    (wurWrite ro ins sh p off v s).link = s.link ∧ (wurWrite ro ins sh p off v s).hif = s.hif ∧
    (wurWrite ro ins sh p off v s).z47 = s.z47 ∧ (wurWrite ro ins sh p off v s).media = s.media ∧
    (wurWrite ro ins sh p off v s).log = s.log ∧ (wurWrite ro ins sh p off v s).cpu = s.cpu ∧
    (wurWrite ro ins sh p off v s).returned = s.returned ∧ (wurWrite ro ins sh p off v s).draws = s.draws ∧
    (wurWrite ro ins sh p off v s).ops = s.ops := by
  unfold wurWrite; dsimp only; split <;> simp

@[simp] theorem pageWrite_frame (p : Nat) (off : PageOffset) (v : Byte) :
    (pageWrite p off v s).cfg = s.cfg ∧ (pageWrite p off v s).dec = s.dec ∧ (pageWrite p off v s).gpp = s.gpp ∧
    (pageWrite p off v s).pending = s.pending ∧ (pageWrite p off v s).link = s.link ∧
    (pageWrite p off v s).hif = s.hif ∧ (pageWrite p off v s).z47 = s.z47 ∧ (pageWrite p off v s).media = s.media ∧
    (pageWrite p off v s).log = s.log ∧ (pageWrite p off v s).cpu = s.cpu ∧
    (pageWrite p off v s).returned = s.returned ∧ (pageWrite p off v s).draws = s.draws ∧
    (pageWrite p off v s).ops = s.ops := by
  unfold pageWrite; split <;> simp

@[simp] theorem putImageByte_frame (d : BitVec 2) (o : Nat) (v : Byte) :
    (putImageByte d o v s).cfg = s.cfg ∧ (putImageByte d o v s).mem = s.mem ∧ (putImageByte d o v s).dec = s.dec ∧
    (putImageByte d o v s).gpp = s.gpp ∧ (putImageByte d o v s).pending = s.pending ∧
    (putImageByte d o v s).link = s.link ∧ (putImageByte d o v s).hif = s.hif ∧ (putImageByte d o v s).z47 = s.z47 ∧
    (putImageByte d o v s).log = s.log ∧ (putImageByte d o v s).cpu = s.cpu ∧
    (putImageByte d o v s).returned = s.returned ∧ (putImageByte d o v s).draws = s.draws ∧
    (putImageByte d o v s).ops = s.ops := by
  simp [putImageByte]

@[simp] theorem raiseInt_frame (l : Nat) :
    (raiseInt l s).cfg = s.cfg ∧ (raiseInt l s).mem = s.mem ∧ (raiseInt l s).dec = s.dec ∧
    (raiseInt l s).gpp = s.gpp ∧ (raiseInt l s).link = s.link ∧ (raiseInt l s).hif = s.hif ∧
    (raiseInt l s).z47 = s.z47 ∧ (raiseInt l s).media = s.media ∧ (raiseInt l s).returned = s.returned ∧
    (raiseInt l s).draws = s.draws ∧ (raiseInt l s).ops = s.ops := by
  unfold raiseInt; split <;> simp

@[simp] theorem lowerInt_frame (l : Nat) :
    (lowerInt l s).cfg = s.cfg ∧ (lowerInt l s).mem = s.mem ∧ (lowerInt l s).dec = s.dec ∧
    (lowerInt l s).gpp = s.gpp ∧ (lowerInt l s).link = s.link ∧ (lowerInt l s).hif = s.hif ∧
    (lowerInt l s).z47 = s.z47 ∧ (lowerInt l s).media = s.media ∧ (lowerInt l s).returned = s.returned ∧
    (lowerInt l s).draws = s.draws ∧ (lowerInt l s).ops = s.ops := by
  unfold lowerInt; split <;> simp

@[simp] theorem raiseNmi_frame :
    (raiseNmi s).cfg = s.cfg ∧ (raiseNmi s).mem = s.mem ∧ (raiseNmi s).dec = s.dec ∧ (raiseNmi s).gpp = s.gpp ∧
    (raiseNmi s).pending = s.pending ∧ (raiseNmi s).link = s.link ∧ (raiseNmi s).hif = s.hif ∧
    (raiseNmi s).z47 = s.z47 ∧ (raiseNmi s).media = s.media ∧ (raiseNmi s).log = s.log ∧
    (raiseNmi s).returned = s.returned ∧ (raiseNmi s).draws = s.draws ∧ (raiseNmi s).ops = s.ops := by
  simp [raiseNmi]

@[simp] theorem intcReset_frame :
    (intcReset s).cfg = s.cfg ∧ (intcReset s).mem = s.mem ∧ (intcReset s).dec = s.dec ∧ (intcReset s).gpp = s.gpp ∧
    (intcReset s).link = s.link ∧ (intcReset s).hif = s.hif ∧ (intcReset s).z47 = s.z47 ∧
    (intcReset s).media = s.media ∧ (intcReset s).log = s.log ∧ (intcReset s).cpu = s.cpu ∧
    (intcReset s).returned = s.returned ∧ (intcReset s).draws = s.draws ∧ (intcReset s).ops = s.ops := by
  simp [intcReset]

@[simp] theorem sendHost_frame (v : Byte) :
    (sendHost v s).cfg = s.cfg ∧ (sendHost v s).mem = s.mem ∧ (sendHost v s).dec = s.dec ∧
    (sendHost v s).gpp = s.gpp ∧ (sendHost v s).pending = s.pending ∧ (sendHost v s).hif = s.hif ∧
    (sendHost v s).z47 = s.z47 ∧ (sendHost v s).media = s.media ∧ (sendHost v s).cpu = s.cpu ∧
    (sendHost v s).returned = s.returned ∧ (sendHost v s).draws = s.draws ∧ (sendHost v s).ops = s.ops := by
  unfold sendHost; dsimp only; split <;> simp

@[simp] theorem sendDrive_frame (v : Byte) :
    (sendDrive v s).cfg = s.cfg ∧ (sendDrive v s).mem = s.mem ∧ (sendDrive v s).dec = s.dec ∧
    (sendDrive v s).gpp = s.gpp ∧ (sendDrive v s).pending = s.pending ∧ (sendDrive v s).hif = s.hif ∧
    (sendDrive v s).z47 = s.z47 ∧ (sendDrive v s).media = s.media ∧ (sendDrive v s).cpu = s.cpu ∧
    (sendDrive v s).returned = s.returned ∧ (sendDrive v s).draws = s.draws ∧ (sendDrive v s).ops = s.ops := by
  unfold sendDrive; dsimp only; split <;> simp

@[simp] theorem readByHost_frame :
    ((readByHost s).2).cfg = s.cfg ∧ ((readByHost s).2).mem = s.mem ∧ ((readByHost s).2).dec = s.dec ∧
    ((readByHost s).2).gpp = s.gpp ∧ ((readByHost s).2).pending = s.pending ∧ ((readByHost s).2).hif = s.hif ∧
    ((readByHost s).2).z47 = s.z47 ∧ ((readByHost s).2).media = s.media ∧ ((readByHost s).2).log = s.log ∧
    ((readByHost s).2).cpu = s.cpu ∧ ((readByHost s).2).returned = s.returned ∧ ((readByHost s).2).draws = s.draws ∧
    ((readByHost s).2).ops = s.ops := by
  simp [readByHost]

@[simp] theorem readByDrive_frame :
    ((readByDrive s).2).cfg = s.cfg ∧ ((readByDrive s).2).mem = s.mem ∧ ((readByDrive s).2).dec = s.dec ∧
    ((readByDrive s).2).gpp = s.gpp ∧ ((readByDrive s).2).pending = s.pending ∧ ((readByDrive s).2).hif = s.hif ∧
    ((readByDrive s).2).z47 = s.z47 ∧ ((readByDrive s).2).media = s.media ∧ ((readByDrive s).2).log = s.log ∧
    ((readByDrive s).2).cpu = s.cpu ∧ ((readByDrive s).2).returned = s.returned ∧
    ((readByDrive s).2).draws = s.draws ∧ ((readByDrive s).2).ops = s.ops := by
  simp [readByDrive]

@[simp] theorem linkReset_frame :
    (linkReset s).cfg = s.cfg ∧ (linkReset s).mem = s.mem ∧ (linkReset s).dec = s.dec ∧ (linkReset s).gpp = s.gpp ∧
    (linkReset s).pending = s.pending ∧ (linkReset s).hif = s.hif ∧ (linkReset s).z47 = s.z47 ∧
    (linkReset s).media = s.media ∧ (linkReset s).log = s.log ∧ (linkReset s).cpu = s.cpu ∧
    (linkReset s).returned = s.returned ∧ (linkReset s).draws = s.draws ∧ (linkReset s).ops = s.ops := by
  simp [linkReset]

@[simp] theorem recomputeIrq_frame :
    (recomputeIrq s).cfg = s.cfg ∧ (recomputeIrq s).mem = s.mem ∧ (recomputeIrq s).dec = s.dec ∧
    (recomputeIrq s).gpp = s.gpp ∧ (recomputeIrq s).link = s.link ∧ (recomputeIrq s).z47 = s.z47 ∧
    (recomputeIrq s).media = s.media ∧ (recomputeIrq s).returned = s.returned ∧ (recomputeIrq s).draws = s.draws ∧
    (recomputeIrq s).ops = s.ops := by
  unfold recomputeIrq; dsimp only; split
  · simp
  · split <;> simp

@[simp] theorem hostSignal_frame :
    (hostSignal s).cfg = s.cfg ∧ (hostSignal s).mem = s.mem ∧ (hostSignal s).dec = s.dec ∧
    (hostSignal s).gpp = s.gpp ∧ (hostSignal s).link = s.link ∧ (hostSignal s).z47 = s.z47 ∧
    (hostSignal s).media = s.media ∧ (hostSignal s).returned = s.returned ∧ (hostSignal s).draws = s.draws ∧
    (hostSignal s).ops = s.ops := by
  unfold hostSignal; split <;> simp

@[simp] theorem setBusy_frame (b : Bool) :
    (setBusy b s).cfg = s.cfg ∧ (setBusy b s).mem = s.mem ∧ (setBusy b s).dec = s.dec ∧ (setBusy b s).gpp = s.gpp ∧
    (setBusy b s).z47 = s.z47 ∧ (setBusy b s).media = s.media ∧ (setBusy b s).returned = s.returned ∧
    (setBusy b s).draws = s.draws ∧ (setBusy b s).ops = s.ops := by
  simp [setBusy]

@[simp] theorem setDtr_frame (b : Bool) :
    (setDtr b s).cfg = s.cfg ∧ (setDtr b s).mem = s.mem ∧ (setDtr b s).dec = s.dec ∧ (setDtr b s).gpp = s.gpp ∧
    (setDtr b s).z47 = s.z47 ∧ (setDtr b s).media = s.media ∧ (setDtr b s).returned = s.returned ∧
    (setDtr b s).draws = s.draws ∧ (setDtr b s).ops = s.ops := by
  simp [setDtr]

@[simp] theorem setDdout_frame (b : Bool) :
    (setDdout b s).cfg = s.cfg ∧ (setDdout b s).mem = s.mem ∧ (setDdout b s).dec = s.dec ∧
    (setDdout b s).gpp = s.gpp ∧ (setDdout b s).z47 = s.z47 ∧ (setDdout b s).media = s.media ∧
    (setDdout b s).returned = s.returned ∧ (setDdout b s).draws = s.draws ∧ (setDdout b s).ops = s.ops := by
  simp [setDdout]

@[simp] theorem setError_frame (b : Bool) :
    (setError b s).cfg = s.cfg ∧ (setError b s).mem = s.mem ∧ (setError b s).dec = s.dec ∧
    (setError b s).gpp = s.gpp ∧ (setError b s).z47 = s.z47 ∧ (setError b s).media = s.media ∧
    (setError b s).returned = s.returned ∧ (setError b s).draws = s.draws ∧ (setError b s).ops = s.ops := by
  simp [setError]

@[simp] theorem externalRead_frame :
    ((externalRead s).2).cfg = s.cfg ∧ ((externalRead s).2).mem = s.mem ∧ ((externalRead s).2).dec = s.dec ∧
    ((externalRead s).2).gpp = s.gpp ∧ ((externalRead s).2).pending = s.pending ∧
    ((externalRead s).2).link = s.link ∧ ((externalRead s).2).hif = s.hif ∧ ((externalRead s).2).z47 = s.z47 ∧
    ((externalRead s).2).media = s.media ∧ ((externalRead s).2).log = s.log ∧ ((externalRead s).2).cpu = s.cpu ∧
    ((externalRead s).2).returned = s.returned ∧ ((externalRead s).2).ops = s.ops := by
  simp [externalRead]

end Sys2Proof.Machine
end

