-- ==== Sys2Proof/Laws/BankFrame.lean ====
section
/-! SUPPORT. What the bank-switching operations leave alone. -/

namespace Sys2Proof.Machine

variable (s : State)

@[simp] theorem decoderNotify_frame (v : Byte) :
    (decoderNotify v s).cfg = s.cfg ∧ (decoderNotify v s).mem = s.mem ∧ (decoderNotify v s).gpp = s.gpp ∧
    (decoderNotify v s).pending = s.pending ∧ (decoderNotify v s).link = s.link ∧ (decoderNotify v s).hif = s.hif ∧
    (decoderNotify v s).z47 = s.z47 ∧ (decoderNotify v s).media = s.media ∧ (decoderNotify v s).log = s.log ∧
    (decoderNotify v s).cpu = s.cpu ∧ (decoderNotify v s).returned = s.returned ∧
    (decoderNotify v s).draws = s.draws ∧ (decoderNotify v s).ops = s.ops := by
  unfold decoderNotify; split <;> simp

@[simp] theorem gppOut_frame (v : Byte) :
    (gppOut v s).cfg = s.cfg ∧ (gppOut v s).mem = s.mem ∧ (gppOut v s).pending = s.pending ∧
    (gppOut v s).link = s.link ∧ (gppOut v s).hif = s.hif ∧ (gppOut v s).z47 = s.z47 ∧ (gppOut v s).media = s.media ∧
    (gppOut v s).log = s.log ∧ (gppOut v s).cpu = s.cpu ∧ (gppOut v s).returned = s.returned ∧
    (gppOut v s).draws = s.draws ∧ (gppOut v s).ops = s.ops := by
  simp [gppOut]

@[simp] theorem decoderReset_frame :
    (decoderReset s).cfg = s.cfg ∧ (decoderReset s).mem = s.mem ∧ (decoderReset s).gpp = s.gpp ∧
    (decoderReset s).pending = s.pending ∧ (decoderReset s).link = s.link ∧ (decoderReset s).hif = s.hif ∧
    (decoderReset s).z47 = s.z47 ∧ (decoderReset s).media = s.media ∧ (decoderReset s).log = s.log ∧
    (decoderReset s).cpu = s.cpu ∧ (decoderReset s).returned = s.returned ∧ (decoderReset s).draws = s.draws ∧
    (decoderReset s).ops = s.ops := by
  simp [decoderReset]

@[simp] theorem gppReset_frame :
    (gppReset s).cfg = s.cfg ∧ (gppReset s).mem = s.mem ∧ (gppReset s).dec = s.dec ∧
    (gppReset s).pending = s.pending ∧ (gppReset s).link = s.link ∧ (gppReset s).hif = s.hif ∧
    (gppReset s).z47 = s.z47 ∧ (gppReset s).media = s.media ∧ (gppReset s).log = s.log ∧ (gppReset s).cpu = s.cpu ∧
    (gppReset s).returned = s.returned ∧ (gppReset s).draws = s.draws ∧ (gppReset s).ops = s.ops := by
  simp [gppReset]

end Sys2Proof.Machine
end

