-- ==== Sys2Proof/Laws/Memory.lean ====
section
/-! SUPPORT. The laws of the byte stores: a read after a write, and that a write keeps the canonical form. -/

namespace Sys2Proof.Machine

@[simp] theorem Memory.read_nil (a : Nat) : Memory.read [] a = unlistedByte := rfl

@[simp] theorem Memory.wf_nil : Memory.wf [] = true := rfl

/-- The canonical form of a memory with a first entry, in words. -/
theorem Memory.wf_cons {b : Nat} {w : Byte} {m : Memory} :
    Memory.wf ((b, w) :: m) = true ↔ w ≠ unlistedByte ∧ (∀ c ∈ m, b < c.1) ∧ Memory.wf m = true := by
  simp [Memory.wf, and_assoc]

/-- Where every listed place lies above `a`, `a` is unlisted. -/
theorem Memory.read_below {m : Memory} {a : Nat} (h : ∀ c ∈ m, a < c.1) : m.read a = unlistedByte := by
  induction m with
  | nil => rfl
  | cons c m ih =>
    have hc : a ≠ c.1 := Nat.ne_of_lt (h c List.mem_cons_self)
    simp [Memory.read, hc, ih fun d hd => h d (List.mem_cons_of_mem _ hd)]

/-- Every place a write lists was listed before or is the one written. -/
theorem Memory.mem_write {m : Memory} {a : Nat} {v : Byte} {c : Host.Cell} (h : c ∈ m.write a v) : c ∈ m ∨ c.1 = a := by
  induction m with
  | nil =>
    unfold Memory.write at h; split at h
    · simp at h
    · simp only [List.mem_singleton] at h; exact .inr (by simp [h])
  | cons d m ih =>
    obtain ⟨b, w⟩ := d
    unfold Memory.write at h
    split at h
    · split at h
      · exact .inl h
      · rcases List.mem_cons.1 h with rfl | h
        · exact .inr rfl
        · exact .inl h
    · split at h
      · split at h
        · exact .inl (List.mem_cons_of_mem _ h)
        · rcases List.mem_cons.1 h with rfl | h
          · exact .inr rfl
          · exact .inl (List.mem_cons_of_mem _ h)
      · rcases List.mem_cons.1 h with rfl | h
        · exact .inl List.mem_cons_self
        · exact (ih h).imp (List.mem_cons_of_mem _) id

/-- A write keeps the canonical form. -/
theorem Memory.write_wf {m : Memory} (a : Nat) (v : Byte) (h : m.wf = true) : (m.write a v).wf = true := by
  induction m with
  | nil =>
    unfold Memory.write; split
    · rfl
    · rename_i hv; exact Memory.wf_cons.2 ⟨hv, by simp, rfl⟩
  | cons d m ih =>
    obtain ⟨b, w⟩ := d
    obtain ⟨hw, hlt, hm⟩ := Memory.wf_cons.1 h
    unfold Memory.write
    split
    · rename_i hab
      split
      · exact h
      · rename_i hv
        refine Memory.wf_cons.2 ⟨hv, fun c hc => ?_, h⟩
        rcases List.mem_cons.1 hc with rfl | hc
        · exact hab
        · exact Nat.lt_trans hab (hlt c hc)
    · rename_i hab
      split
      · rename_i heq
        split
        · exact hm
        · rename_i hv; exact Memory.wf_cons.2 ⟨hv, by simpa [heq] using hlt, hm⟩
      · rename_i hne
        refine Memory.wf_cons.2 ⟨hw, fun c hc => ?_, ih hm⟩
        rcases Memory.mem_write hc with hc | hc
        · exact hlt c hc
        · omega

/-- A read after a write: the place written holds the byte, every other place is left alone. -/
theorem Memory.read_write {m : Memory} (a : Nat) (v : Byte) (b : Nat) (h : m.wf = true) :
    (m.write a v).read b = if b = a then v else m.read b := by
  induction m with
  | nil => unfold Memory.write; split <;> simp_all [Memory.read]
  | cons d m ih =>
    obtain ⟨c, w⟩ := d
    obtain ⟨_, hlt, hm⟩ := Memory.wf_cons.1 h
    unfold Memory.write
    split
    · rename_i hac
      have hbelow : ∀ e ∈ (c, w) :: m, a < e.1 := by
        rintro e he
        rcases List.mem_cons.1 he with rfl | he
        · exact hac
        · exact Nat.lt_trans hac (hlt e he)
      split
      · rename_i hv
        split
        · rename_i hba; rw [hba, Memory.read_below hbelow, hv]
        · rfl
      · simp [Memory.read]
    · split
      · rename_i hac
        subst hac
        split
        · rename_i hv
          by_cases hb : b = a
          · simp [hb, hv, Memory.read_below hlt]
          · simp [Memory.read, hb]
        · by_cases hb : b = a <;> simp [Memory.read, hb]
      · rename_i hne
        by_cases hb : b = c
        · have : b ≠ a := fun e => hne (e ▸ hb)
          simp [Memory.read, hb, show c ≠ a from fun e => hne e.symm]
        · simp [Memory.read, hb, ih hm]

/-- Canonical memories that read alike are equal. -/
theorem Memory.ext_of_wf {m n : Memory} (hm : m.wf = true) (hn : n.wf = true) (h : ∀ a, m.read a = n.read a) : m = n := by
  induction m generalizing n with
  | nil =>
    cases n with
    | nil => rfl
    | cons d n =>
      obtain ⟨b, w⟩ := d
      obtain ⟨hw, -, -⟩ := Memory.wf_cons.1 hn
      exact absurd (h b) (by simpa [Memory.read] using Ne.symm hw)
  | cons d m ih =>
    obtain ⟨b, w⟩ := d
    obtain ⟨hw, hlt, hm'⟩ := Memory.wf_cons.1 hm
    cases n with
    | nil => exact absurd (h b) (by simpa [Memory.read] using hw)
    | cons e n =>
      obtain ⟨c, x⟩ := e
      obtain ⟨hx, hlt', hn'⟩ := Memory.wf_cons.1 hn
      have hbc : b = c := by
        rcases Nat.lt_trichotomy b c with hl | he | hl
        · have := h b
          rw [Memory.read_below (m := (c, x) :: n)
            (by rintro e he; rcases List.mem_cons.1 he with rfl | he; exacts [hl, Nat.lt_trans hl (hlt' e he)])] at this
          exact absurd this (by simpa [Memory.read] using hw)
        · exact he
        · have := h c
          rw [Memory.read_below (m := (b, w) :: m)
            (by rintro e he; rcases List.mem_cons.1 he with rfl | he; exacts [hl, Nat.lt_trans hl (hlt e he)])] at this
          exact absurd this.symm (by simpa [Memory.read] using hx)
      subst hbc
      have hwx : w = x := by simpa [Memory.read] using h b
      subst hwx
      have : m = n := ih hm' hn' fun a => by
        by_cases ha : a = b
        · rw [ha, Memory.read_below hlt, Memory.read_below hlt']
        · simpa [Memory.read, ha] using h a
      rw [this]

/-- Two page bytes stand at one place only if they are the same byte of the same page. -/
theorem pageKey_inj {p q : Nat} {o r : PageOffset} : pageKey p o = pageKey q r ↔ p = q ∧ o = r := by
  have ho := o.isLt
  have hr := r.isLt
  constructor
  · intro h
    simp only [pageKey, pageSize] at h
    exact ⟨by omega, BitVec.eq_of_toNat_eq (by omega)⟩
  · rintro ⟨rfl, rfl⟩; rfl

/-- A page byte after a page byte is written. -/
theorem State.pageByte_putPageByte (s : State) (p q : Nat) (o r : PageOffset) (v : Byte) (h : s.mem.wf = true) :
    (s.putPageByte p o v).pageByte q r = if q = p ∧ r = o then v else s.pageByte q r := by
  simp [State.pageByte, State.putPageByte, Memory.read_write _ _ _ h, pageKey_inj]

/-- A page write keeps the canonical form of memory. -/
theorem pageWrite_wf (s : State) (p : Nat) (o : PageOffset) (v : Byte) (h : s.mem.wf = true) :
    (pageWrite p o v s).mem.wf = true := by
  have put (t : State) (q : Nat) (ht : t.mem.wf = true) : (t.putPageByte q o v).mem.wf = true := by
    simp [State.putPageByte, Memory.write_wf _ _ ht]
  unfold pageWrite wurWrite shadowWrite
  dsimp only
  repeat' split
  all_goals simp [h, put]

/-- An image byte after an image byte is written. -/
theorem imageByte_putImageByte (s : State) (d e : BitVec 2) (o p : Nat) (v : Byte)
    (hw : ∀ m ∈ s.media, Memory.wf m = true) (hd : d.toNat < s.media.length) :
    imageByte (putImageByte d o v s) e p = if e = d ∧ p = o then v else imageByte s e p := by
  unfold imageByte putImageByte
  simp only [State.setMedia_media, List.getD_eq_getElem?_getD, List.getElem?_modify]
  by_cases he : e = d
  · subst he
    have hm := hw _ (List.getElem_mem hd)
    simp [List.getElem?_eq_getElem hd, Memory.read_write _ _ _ hm]
  · have : d.toNat ≠ e.toNat := fun h => he (BitVec.eq_of_toNat_eq h.symm)
    simp [this, he]

/-- Writing an image byte keeps the images canonical and their number. -/
theorem putImageByte_canonical (s : State) (d : BitVec 2) (o : Nat) (v : Byte)
    (hw : ∀ m ∈ s.media, Memory.wf m = true) :
    (∀ m ∈ (putImageByte d o v s).media, Memory.wf m = true) ∧ (putImageByte d o v s).media.length = s.media.length := by
  refine ⟨fun m hm => ?_, by simp [putImageByte]⟩
  simp only [putImageByte, State.setMedia_media] at hm
  obtain ⟨i, hi, rfl⟩ := List.getElem_of_mem hm
  rw [List.getElem_modify]
  split
  · exact Memory.write_wf _ _ (hw _ (List.getElem_mem _))
  · exact hw _ (List.getElem_mem _)

end Sys2Proof.Machine
end

