-- ==== Sys2Proof/Laws/Build.lean ====
section
/-! SUPPORT. What the build-time calls do: the bytes a load leaves and its canonical form, and the layouts a bank table holds. -/

namespace Sys2Proof.Machine

/-! ### Loading bytes -/

/-- A load keeps the canonical form. -/
theorem Memory.load_wf {m : Memory} (a : Nat) (vs : List Byte) (h : m.wf = true) : (m.load a vs).wf = true := by
  induction vs generalizing m a with
  | nil => exact h
  | cons v vs ih => exact ih _ (Memory.write_wf a v h)

/-- A load puts its bytes from its place on, and leaves every other place alone. -/
theorem Memory.read_load {m : Memory} (a : Nat) (vs : List Byte) (b : Nat) (h : m.wf = true) :
    (m.load a vs).read b = if a ≤ b ∧ b < a + vs.length then vs.getD (b - a) 0#8 else m.read b := by
  induction vs generalizing m a with
  | nil => simp [Memory.load]
  | cons v vs ih =>
    rw [Memory.load, ih _ (Memory.write_wf a v h), Memory.read_write _ _ _ h]
    rcases Nat.lt_trichotomy b a with hb | rfl | hb
    · rw [if_neg (by omega), if_neg (by omega), if_neg (by omega)]
    · simp
    · obtain ⟨k, rfl⟩ := Nat.exists_eq_add_of_lt hb
      simp [show a + k + 1 - a = k + 1 by omega, show a + k + 1 - (a + 1) = k by omega,
        show ¬a + k + 1 = a by omega, show a + 1 ≤ a + k + 1 by omega, show a ≤ a + k + 1 by omega,
        show (a + k + 1 < a + 1 + vs.length) = (a + k + 1 < a + (vs.length + 1)) by rw [eq_iff_iff]; omega]

/-- Every build-time call keeps page memory canonical. -/
theorem Build.call_mem_wf (b : Build) (c : BuildCall) (h : b.mem.wf = true) : (b.call c).mem.wf = true := by
  cases c <;> simp only [Build.call, Build.createPage, Build.loadRom, Build.loadDrive, Build.addPage, Build.addLayout,
    Build.addDevice, Build.registerHost, Build.registerDevice, Build.registerClock, Build.logged] <;>
    (repeat' split) <;> first | exact h | exact Memory.load_wf _ _ h

/-- Every build-time call keeps the images canonical. -/
theorem Build.call_media_wf (b : Build) (c : BuildCall) (h : ∀ m ∈ b.media, Memory.wf m = true) :
    ∀ m ∈ (b.call c).media, Memory.wf m = true := by
  cases c <;> simp only [Build.call, Build.createPage, Build.loadRom, Build.loadDrive, Build.addPage, Build.addLayout,
    Build.addDevice, Build.registerHost, Build.registerDevice, Build.registerClock, Build.logged] <;>
    (repeat' split) <;> try exact h
  intro m hm
  rcases List.mem_or_eq_of_mem_set hm with hm | rfl
  · exact h m hm
  · exact Memory.load_wf _ _ rfl

/-! ### Layouts -/

/-- The page of a slot among the eight of a layout. -/
@[simp] theorem eightSlots_getD (l : List Nat) (s : BitVec 3) : (eightSlots l).getD s.toNat nilPage = l.getD s.toNat nilPage := by
  have h := s.isLt
  generalize s.toNat = n at h
  interval_cases n <;> rfl

/-- The eight slots of a layout. -/
@[simp] theorem eightSlots_length (l : List Nat) : (eightSlots l).length = 8 := rfl

/-- `LAY` has one layout for each bank (R33). -/
@[simp] theorem Config.banks_length (c : Config) : c.banks.length = c.nBanks := by simp [Config.banks]

/-- A layout of `LAY`. -/
theorem Config.banks_getD (c : Config) (k : Nat) (h : k < c.nBanks) : c.banks.getD k [] = eightSlots (c.layouts.getD k []) := by
  simp [Config.banks, h]

end Sys2Proof.Machine
end

