-- ==== Sys2Proof/Laws/ControllerFrame.lean ====
section
/-! SUPPORT. What the operations of the Z47 controller leave alone. -/

namespace Sys2Proof.Machine

variable (s : State)

@[simp] theorem commandComplete_frame :
    (commandComplete s).cfg = s.cfg ∧ (commandComplete s).mem = s.mem ∧ (commandComplete s).dec = s.dec ∧
    (commandComplete s).gpp = s.gpp ∧ (commandComplete s).media = s.media ∧
    (commandComplete s).returned = s.returned ∧ (commandComplete s).draws = s.draws ∧ (commandComplete s).ops = s.ops := by
  unfold commandComplete; dsimp only; split <;> simp

@[simp] theorem applyAction_frame (r : State × Action) :
    (applyAction r).cfg = r.1.cfg ∧ (applyAction r).mem = r.1.mem ∧ (applyAction r).dec = r.1.dec ∧
    (applyAction r).gpp = r.1.gpp ∧ (applyAction r).media = r.1.media ∧ (applyAction r).returned = r.1.returned ∧
    (applyAction r).draws = r.1.draws ∧ (applyAction r).ops = r.1.ops := by
  unfold applyAction; split <;> simp

@[simp] theorem State.setErr_frame (e : ErrorLatches) :
    (s.setErr e).cfg = s.cfg ∧ (s.setErr e).mem = s.mem ∧ (s.setErr e).dec = s.dec ∧ (s.setErr e).gpp = s.gpp ∧
    (s.setErr e).pending = s.pending ∧ (s.setErr e).link = s.link ∧ (s.setErr e).hif = s.hif ∧
    (s.setErr e).media = s.media ∧ (s.setErr e).log = s.log ∧ (s.setErr e).cpu = s.cpu ∧
    (s.setErr e).returned = s.returned ∧ (s.setErr e).draws = s.draws ∧ (s.setErr e).ops = s.ops := by
  simp [State.setErr]

@[simp] theorem checkParams_frame (v : Byte) (d : Direction) :
    ((checkParams v d s).1).cfg = s.cfg ∧ ((checkParams v d s).1).mem = s.mem ∧ ((checkParams v d s).1).dec = s.dec ∧
    ((checkParams v d s).1).gpp = s.gpp ∧ ((checkParams v d s).1).pending = s.pending ∧
    ((checkParams v d s).1).link = s.link ∧ ((checkParams v d s).1).hif = s.hif ∧
    ((checkParams v d s).1).media = s.media ∧ ((checkParams v d s).1).log = s.log ∧
    ((checkParams v d s).1).cpu = s.cpu ∧ ((checkParams v d s).1).returned = s.returned ∧
    ((checkParams v d s).1).draws = s.draws ∧ ((checkParams v d s).1).ops = s.ops := by
  unfold checkParams; dsimp only; repeat' split
  all_goals simp

@[simp] theorem State.advanceTransfer_frame :
    (s.advanceTransfer).cfg = s.cfg ∧ (s.advanceTransfer).mem = s.mem ∧ (s.advanceTransfer).dec = s.dec ∧
    (s.advanceTransfer).gpp = s.gpp ∧ (s.advanceTransfer).pending = s.pending ∧ (s.advanceTransfer).link = s.link ∧
    (s.advanceTransfer).hif = s.hif ∧ (s.advanceTransfer).media = s.media ∧ (s.advanceTransfer).log = s.log ∧
    (s.advanceTransfer).cpu = s.cpu ∧ (s.advanceTransfer).returned = s.returned ∧
    (s.advanceTransfer).draws = s.draws ∧ (s.advanceTransfer).ops = s.ops := by
  simp [State.advanceTransfer]

@[simp] theorem rsbHandler_frame (pos : Nat) (v : Byte) :
    ((rsbHandler pos v s).1).cfg = s.cfg ∧ ((rsbHandler pos v s).1).mem = s.mem ∧
    ((rsbHandler pos v s).1).dec = s.dec ∧ ((rsbHandler pos v s).1).gpp = s.gpp ∧
    ((rsbHandler pos v s).1).pending = s.pending ∧ ((rsbHandler pos v s).1).link = s.link ∧
    ((rsbHandler pos v s).1).hif = s.hif ∧ ((rsbHandler pos v s).1).media = s.media ∧
    ((rsbHandler pos v s).1).log = s.log ∧ ((rsbHandler pos v s).1).cpu = s.cpu ∧
    ((rsbHandler pos v s).1).returned = s.returned ∧ ((rsbHandler pos v s).1).draws = s.draws ∧
    ((rsbHandler pos v s).1).ops = s.ops := by
  unfold rsbHandler; dsimp only; repeat' split
  all_goals simp

@[simp] theorem wsbHandler_frame (pos : Nat) (v : Byte) :
    ((wsbHandler pos v s).1).cfg = s.cfg ∧ ((wsbHandler pos v s).1).mem = s.mem ∧
    ((wsbHandler pos v s).1).dec = s.dec ∧ ((wsbHandler pos v s).1).gpp = s.gpp ∧
    ((wsbHandler pos v s).1).pending = s.pending ∧ ((wsbHandler pos v s).1).link = s.link ∧
    ((wsbHandler pos v s).1).hif = s.hif ∧ ((wsbHandler pos v s).1).log = s.log ∧
    ((wsbHandler pos v s).1).cpu = s.cpu ∧ ((wsbHandler pos v s).1).returned = s.returned ∧
    ((wsbHandler pos v s).1).draws = s.draws ∧ ((wsbHandler pos v s).1).ops = s.ops := by
  unfold wsbHandler; dsimp only; repeat' split
  all_goals simp

@[simp] theorem rcsHandler_frame (pos : Nat) :
    ((rcsHandler pos s).1).cfg = s.cfg ∧ ((rcsHandler pos s).1).mem = s.mem ∧ ((rcsHandler pos s).1).dec = s.dec ∧
    ((rcsHandler pos s).1).gpp = s.gpp ∧ ((rcsHandler pos s).1).media = s.media ∧
    ((rcsHandler pos s).1).returned = s.returned ∧ ((rcsHandler pos s).1).draws = s.draws ∧
    ((rcsHandler pos s).1).ops = s.ops := by
  unfold rcsHandler; split <;> simp

@[simp] theorem invalidHandler_frame :
    ((invalidHandler s).1).cfg = s.cfg ∧ ((invalidHandler s).1).mem = s.mem ∧ ((invalidHandler s).1).dec = s.dec ∧
    ((invalidHandler s).1).gpp = s.gpp ∧ ((invalidHandler s).1).pending = s.pending ∧
    ((invalidHandler s).1).link = s.link ∧ ((invalidHandler s).1).hif = s.hif ∧
    ((invalidHandler s).1).media = s.media ∧ ((invalidHandler s).1).log = s.log ∧
    ((invalidHandler s).1).cpu = s.cpu ∧ ((invalidHandler s).1).returned = s.returned ∧
    ((invalidHandler s).1).draws = s.draws ∧ ((invalidHandler s).1).ops = s.ops := by
  simp [invalidHandler]

@[simp] theorem handler_frame (c : CtrlState) (pos : Nat) (v : Byte) :
    ((handler c pos v s).1).cfg = s.cfg ∧ ((handler c pos v s).1).mem = s.mem ∧ ((handler c pos v s).1).dec = s.dec ∧
    ((handler c pos v s).1).gpp = s.gpp ∧ ((handler c pos v s).1).returned = s.returned ∧
    ((handler c pos v s).1).draws = s.draws ∧ ((handler c pos v s).1).ops = s.ops := by
  unfold handler; split <;> simp

@[simp] theorem startCommand_frame (v : Byte) :
    (startCommand v s).cfg = s.cfg ∧ (startCommand v s).mem = s.mem ∧ (startCommand v s).dec = s.dec ∧
    (startCommand v s).gpp = s.gpp ∧ (startCommand v s).returned = s.returned ∧ (startCommand v s).draws = s.draws ∧
    (startCommand v s).ops = s.ops := by
  simp [startCommand]

@[simp] theorem nextPosition_frame :
    (nextPosition s).cfg = s.cfg ∧ (nextPosition s).mem = s.mem ∧ (nextPosition s).dec = s.dec ∧
    (nextPosition s).gpp = s.gpp ∧ (nextPosition s).returned = s.returned ∧ (nextPosition s).draws = s.draws ∧
    (nextPosition s).ops = s.ops := by
  simp [nextPosition]

@[simp] theorem controllerDispatch_frame :
    (controllerDispatch s).cfg = s.cfg ∧ (controllerDispatch s).mem = s.mem ∧ (controllerDispatch s).dec = s.dec ∧
    (controllerDispatch s).gpp = s.gpp ∧ (controllerDispatch s).returned = s.returned ∧
    (controllerDispatch s).draws = s.draws ∧ (controllerDispatch s).ops = s.ops := by
  unfold controllerDispatch; repeat' split
  all_goals simp

@[simp] theorem linkStep_frame :
    (linkStep s).cfg = s.cfg ∧ (linkStep s).mem = s.mem ∧ (linkStep s).dec = s.dec ∧ (linkStep s).gpp = s.gpp ∧
    (linkStep s).returned = s.returned ∧ (linkStep s).draws = s.draws ∧ (linkStep s).ops = s.ops := by
  unfold linkStep; dsimp only; repeat' split
  all_goals simp

@[simp] theorem notification_frame (c : Nat) :
    (notification c s).cfg = s.cfg ∧ (notification c s).mem = s.mem ∧ (notification c s).dec = s.dec ∧
    (notification c s).gpp = s.gpp ∧ (notification c s).returned = s.returned ∧ (notification c s).draws = s.draws ∧
    (notification c s).ops = s.ops := by
  unfold notification; split <;> simp

@[simp] theorem masterReset_frame :
    (masterReset s).cfg = s.cfg ∧ (masterReset s).mem = s.mem ∧ (masterReset s).dec = s.dec ∧
    (masterReset s).gpp = s.gpp ∧ (masterReset s).media = s.media ∧ (masterReset s).returned = s.returned ∧
    (masterReset s).draws = s.draws ∧ (masterReset s).ops = s.ops := by
  simp [masterReset]

@[simp] theorem onDtak_frame :
    (onDtak s).cfg = s.cfg ∧ (onDtak s).mem = s.mem ∧ (onDtak s).dec = s.dec ∧ (onDtak s).gpp = s.gpp ∧
    (onDtak s).media = s.media ∧ (onDtak s).returned = s.returned ∧ (onDtak s).draws = s.draws ∧
    (onDtak s).ops = s.ops := by
  unfold onDtak; dsimp only; repeat' split
  all_goals simp

@[simp] theorem setMr_frame (b : Bool) :
    (setMr b s).cfg = s.cfg ∧ (setMr b s).mem = s.mem ∧ (setMr b s).dec = s.dec ∧ (setMr b s).gpp = s.gpp ∧
    (setMr b s).media = s.media ∧ (setMr b s).returned = s.returned ∧ (setMr b s).draws = s.draws ∧
    (setMr b s).ops = s.ops := by
  unfold setMr deviceSignal; repeat' split
  all_goals simp

@[simp] theorem setDtak_frame (b : Bool) :
    (setDtak b s).cfg = s.cfg ∧ (setDtak b s).mem = s.mem ∧ (setDtak b s).dec = s.dec ∧ (setDtak b s).gpp = s.gpp ∧
    (setDtak b s).media = s.media ∧ (setDtak b s).returned = s.returned ∧ (setDtak b s).draws = s.draws ∧
    (setDtak b s).ops = s.ops := by
  unfold setDtak deviceSignal; repeat' split
  all_goals simp

end Sys2Proof.Machine
end

