-- ==== Sys2Proof/Laws/CardFrame.lean ====
section
/-! SUPPORT. What the operations of the host interface leave alone. -/

namespace Sys2Proof.Machine

variable (s : State)

@[simp] theorem dtakPulse_frame :
    (dtakPulse s).cfg = s.cfg ∧ (dtakPulse s).mem = s.mem ∧ (dtakPulse s).dec = s.dec ∧ (dtakPulse s).gpp = s.gpp ∧
    (dtakPulse s).media = s.media ∧ (dtakPulse s).returned = s.returned ∧ (dtakPulse s).draws = s.draws ∧
    (dtakPulse s).ops = s.ops := by
  simp [dtakPulse]

@[simp] theorem cardMasterReset_frame (b : Bool) :
    (cardMasterReset b s).cfg = s.cfg ∧ (cardMasterReset b s).mem = s.mem ∧ (cardMasterReset b s).dec = s.dec ∧
    (cardMasterReset b s).gpp = s.gpp ∧ (cardMasterReset b s).media = s.media ∧
    (cardMasterReset b s).returned = s.returned ∧ (cardMasterReset b s).draws = s.draws ∧
    (cardMasterReset b s).ops = s.ops := by
  unfold cardMasterReset; split <;> simp

@[simp] theorem cardCommand_frame (v : Byte) :
    (cardCommand v s).cfg = s.cfg ∧ (cardCommand v s).mem = s.mem ∧ (cardCommand v s).dec = s.dec ∧
    (cardCommand v s).gpp = s.gpp ∧ (cardCommand v s).media = s.media ∧ (cardCommand v s).returned = s.returned ∧
    (cardCommand v s).draws = s.draws ∧ (cardCommand v s).ops = s.ops := by
  simp [cardCommand]

@[simp] theorem cardDataIn_frame :
    ((cardDataIn s).2).cfg = s.cfg ∧ ((cardDataIn s).2).mem = s.mem ∧ ((cardDataIn s).2).dec = s.dec ∧
    ((cardDataIn s).2).gpp = s.gpp ∧ ((cardDataIn s).2).media = s.media ∧ ((cardDataIn s).2).returned = s.returned ∧
    ((cardDataIn s).2).draws = s.draws ∧ ((cardDataIn s).2).ops = s.ops := by
  simp [cardDataIn]

@[simp] theorem cardDataOut_frame (v : Byte) :
    (cardDataOut v s).cfg = s.cfg ∧ (cardDataOut v s).mem = s.mem ∧ (cardDataOut v s).dec = s.dec ∧
    (cardDataOut v s).gpp = s.gpp ∧ (cardDataOut v s).media = s.media ∧ (cardDataOut v s).returned = s.returned ∧
    (cardDataOut v s).draws = s.draws ∧ (cardDataOut v s).ops = s.ops := by
  simp [cardDataOut]

@[simp] theorem cardReset_frame :
    (cardReset s).cfg = s.cfg ∧ (cardReset s).mem = s.mem ∧ (cardReset s).dec = s.dec ∧ (cardReset s).gpp = s.gpp ∧
    (cardReset s).media = s.media ∧ (cardReset s).returned = s.returned ∧ (cardReset s).draws = s.draws ∧
    (cardReset s).ops = s.ops := by
  simp [cardReset]

@[simp] theorem cardPowerOn_frame :
    (cardPowerOn s).cfg = s.cfg ∧ (cardPowerOn s).mem = s.mem ∧ (cardPowerOn s).dec = s.dec ∧
    (cardPowerOn s).gpp = s.gpp ∧ (cardPowerOn s).pending = s.pending ∧ (cardPowerOn s).link = s.link ∧
    (cardPowerOn s).z47 = s.z47 ∧ (cardPowerOn s).media = s.media ∧ (cardPowerOn s).log = s.log ∧
    (cardPowerOn s).cpu = s.cpu ∧ (cardPowerOn s).returned = s.returned ∧ (cardPowerOn s).draws = s.draws ∧
    (cardPowerOn s).ops = s.ops := by
  simp [cardPowerOn]

end Sys2Proof.Machine
end

