-- ==== Sys2Proof/Laws/IoFrame.lean ====
section
/-! SUPPORT. What the I/O bus operations leave alone. -/

namespace Sys2Proof.Machine

variable (s : State)

@[simp] theorem deviceIn_frame (d : Device) (off : Nat) :
    ((deviceIn d off s).2).cfg = s.cfg ∧ ((deviceIn d off s).2).mem = s.mem ∧ ((deviceIn d off s).2).dec = s.dec ∧
    ((deviceIn d off s).2).gpp = s.gpp ∧ ((deviceIn d off s).2).media = s.media ∧
    ((deviceIn d off s).2).returned = s.returned ∧ ((deviceIn d off s).2).ops = s.ops := by
  unfold deviceIn; split <;> simp

@[simp] theorem deviceOut_frame (d : Device) (off : Nat) (v : Byte) :
    (deviceOut d off v s).cfg = s.cfg ∧ (deviceOut d off v s).mem = s.mem ∧ (deviceOut d off v s).media = s.media ∧
    (deviceOut d off v s).returned = s.returned ∧ (deviceOut d off v s).draws = s.draws ∧
    (deviceOut d off v s).ops = s.ops := by
  unfold deviceOut; split <;> simp

@[simp] theorem deviceReset_frame (d : Device) :
    (deviceReset d s).cfg = s.cfg ∧ (deviceReset d s).mem = s.mem ∧ (deviceReset d s).dec = s.dec ∧
    (deviceReset d s).media = s.media ∧ (deviceReset d s).returned = s.returned ∧ (deviceReset d s).draws = s.draws ∧
    (deviceReset d s).ops = s.ops := by
  unfold deviceReset; split <;> simp

@[simp] theorem ioIn_frame (p : Port) :
    ((ioIn p s).2).cfg = s.cfg ∧ ((ioIn p s).2).mem = s.mem ∧ ((ioIn p s).2).dec = s.dec ∧
    ((ioIn p s).2).gpp = s.gpp ∧ ((ioIn p s).2).media = s.media ∧ ((ioIn p s).2).returned = s.returned ∧
    ((ioIn p s).2).ops = s.ops := by
  unfold ioIn; split <;> simp

@[simp] theorem ioOut_frame (p : Port) (v : Byte) :
    (ioOut p v s).cfg = s.cfg ∧ (ioOut p v s).mem = s.mem ∧ (ioOut p v s).media = s.media ∧
    (ioOut p v s).returned = s.returned ∧ (ioOut p v s).draws = s.draws ∧ (ioOut p v s).ops = s.ops := by
  unfold ioOut; split <;> simp

end Sys2Proof.Machine
end

