-- ==== Sys2Proof/Laws/Words.lean ====
section
/-! SUPPORT. The fields of the words the encoder writes: one lemma for each field. -/

namespace Sys2Proof

/-- The low part of two joined bit fields. -/
theorem extract_append_low {m n : Nat} (x : BitVec m) (y : BitVec n) : (x ++ y).extractLsb' 0 n = y := by
  apply BitVec.eq_of_getLsbD_eq
  intro i hi
  rw [BitVec.getLsbD_extractLsb', BitVec.getLsbD_append]
  simp [hi]

/-- The high part of two joined bit fields. -/
theorem extract_append_high {m n : Nat} (x : BitVec m) (y : BitVec n) : (x ++ y).extractLsb' n m = x := by
  apply BitVec.eq_of_getLsbD_eq
  intro i hi
  rw [BitVec.getLsbD_extractLsb', BitVec.getLsbD_append]
  simp [hi]

/-- The middle one of three joined bit fields. -/
theorem extract_append_middle {l m n : Nat} (w : BitVec l) (x : BitVec m) (y : BitVec n) :
    (w ++ x ++ y).extractLsb' n m = x := by
  apply BitVec.eq_of_getLsbD_eq
  intro i hi
  rw [BitVec.getLsbD_extractLsb', BitVec.getLsbD_append, BitVec.getLsbD_append]
  simp [hi]

/-- The high one of three joined bit fields. -/
theorem extract_append_top {l m n : Nat} (w : BitVec l) (x : BitVec m) (y : BitVec n) :
    (w ++ x ++ y).extractLsb' (n + m) l = w := by
  apply BitVec.eq_of_getLsbD_eq
  intro i hi
  rw [BitVec.getLsbD_extractLsb', BitVec.getLsbD_append, BitVec.getLsbD_append,
    if_neg (by omega), if_neg (by omega)]
  simp [hi, show n + m + i - n - m = i by omega]

@[simp] theorem tKind_append (k : BitVec 3) (a : BitVec 16) (d : Byte) : tKind (k ++ a ++ d) = k :=
  extract_append_top k a d

@[simp] theorem tAddr_append (k : BitVec 3) (a : BitVec 16) (d : Byte) : tAddr (k ++ a ++ d) = a :=
  extract_append_middle k a d

@[simp] theorem tData_append (k : BitVec 3) (a : BitVec 16) (d : Byte) : tData (k ++ a ++ d) = d :=
  extract_append_low (k ++ a) d

/-- The port is the low byte of the address field (R123). -/
theorem tPort_eq (w : BitVec 27) : tPort w = (tAddr w).extractLsb' 0 8 := by
  apply BitVec.eq_of_getLsbD_eq
  intro i hi
  simp [tPort, tAddr, hi, show i < 16 by omega]

/-- The port of an I/O word, whatever stands in the high byte of its address field (R123). -/
theorem tPort_append (k : BitVec 3) (a : BitVec 16) (h p d : Byte) (ha : a = h ++ p) : tPort (k ++ a ++ d) = p := by
  rw [tPort_eq, tAddr_append, ha]
  exact extract_append_low h p

@[simp] theorem lkCode_append (k : BitVec 4) (d : Byte) : lkCode (k ++ d) = k := extract_append_high k d
@[simp] theorem lkData_append (k : BitVec 4) (d : Byte) : lkData (k ++ d) = d := extract_append_low k d

@[simp] theorem lkBit_append (k : BitVec 4) (d : Byte) : lkBit (k ++ d) = d.getLsbD 0 := by
  rw [lkBit, BitVec.getLsbD_append]
  rfl

@[simp] theorem iqOp_append (k : BitVec 2) (x : BitVec 1) (l : BitVec 3) : iqOp (k ++ x ++ l) = k :=
  extract_append_top k x l

@[simp] theorem iqLevel_append (k : BitVec 2) (x : BitVec 1) (l : BitVec 3) : iqLevel (k ++ x ++ l) = l :=
  extract_append_low (k ++ x) l

end Sys2Proof
end

