-- ==== Sys2Proof/Laws/PerInstr.lean ====
section
/-! SUPPORT. The per-instruction family `OpcodeRow`: the canonical word of an operation, under the opcode table's port and command
numbers, has the fixed bits of its row of spec/opcode_table.json. -/

namespace Sys2Proof.Laws.OpcodeRow

/-- Format T with bits 26:24 fixed. -/
def HasKind (k : BitVec 3) : OpWord → Prop
  | .t w => w.extractLsb' 24 3 = k
  | .lk _ => False
  | .iq _ => False
  | .zc _ => False

/-- Format T with bits 26:24 and 15:8 fixed. -/
def HasKindPort (k : BitVec 3) (p : BitVec 8) : OpWord → Prop
  | .t w => w.extractLsb' 24 3 = k ∧ w.extractLsb' 8 8 = p
  | .lk _ => False
  | .iq _ => False
  | .zc _ => False

/-- Format LK with bits 11:8 fixed. -/
def HasCode (k : BitVec 4) : OpWord → Prop
  | .lk w => w.extractLsb' 8 4 = k
  | .t _ => False
  | .iq _ => False
  | .zc _ => False

/-- Format IQ with bits 5:4 fixed. -/
def HasOp (k : BitVec 2) : OpWord → Prop
  | .iq w => w.extractLsb' 4 2 = k
  | .t _ => False
  | .lk _ => False
  | .zc _ => False

/-- Format ZC with bits 7:0 fixed. -/
def IsCommand (b : BitVec 8) : OpWord → Prop
  | .zc w => w = b
  | .t _ => False
  | .lk _ => False
  | .iq _ => False

/-- Format ZC with a byte that fits none of the three rows above it. -/
def IsOtherCommand : OpWord → Prop
  | .zc w => w ≠ 0x07#8 ∧ w ≠ 0x08#8 ∧ w ≠ 0x01#8
  | .t _ => False
  | .lk _ => False
  | .iq _ => False

/-- The fixed bits of the operation's row of the opcode table. -/
def Row : Instr → OpWord → Prop
  | .mrd _ => HasKind 0#3
  | .mwr _ _ => HasKind 1#3
  | .inta _ => HasKind 2#3
  | .inp _ => HasKind 3#3
  | .out _ _ => HasKind 4#3
  | .tick _ => HasKind 5#3
  | .reset => HasKind 6#3
  | .gppWr _ => HasKindPort 4#3 242#8
  | .gppRd => HasKindPort 3#3 242#8
  | .z47Stat => HasKindPort 3#3 120#8
  | .z47Cmd _ => HasKindPort 4#3 120#8
  | .z47Din => HasKindPort 3#3 121#8
  | .z47Dout _ => HasKindPort 4#3 121#8
  | .sendHost _ => HasCode 0#4
  | .sendDrive _ => HasCode 1#4
  | .readByHost => HasCode 2#4
  | .readByDrive => HasCode 3#4
  | .setBusy _ => HasCode 4#4
  | .setDtr _ => HasCode 5#4
  | .setDdout _ => HasCode 6#4
  | .setError _ => HasCode 7#4
  | .setMr _ => HasCode 8#4
  | .setDtak _ => HasCode 9#4
  | .raiseInt _ => HasOp 0#2
  | .lowerInt _ => HasOp 1#2
  | .raiseNmi => HasOp 2#2
  | .z47Rsb => IsCommand 7#8
  | .z47Wsb => IsCommand 8#8
  | .z47Rcs => IsCommand 1#8
  | .z47Invalid _ => IsOtherCommand

/-- The canonical word of a well-formed operation has its row's fixed bits. -/
def Statement (i : Instr) : Prop := i.wf Codes.table = true → Row i (encode Codes.table i)

theorem kind_word (k : BitVec 3) (a : BitVec 16) (d : Byte) : HasKind k (tWord k a d) := extract_append_top k a d

theorem kind_io (k : BitVec 3) (p d : Byte) : HasKind k (ioWord k p d) := kind_word k _ d

theorem kind_port (k : BitVec 3) (p d : Byte) : HasKindPort k p (ioWord k p d) :=
  ⟨kind_word k _ d, tPort_append k _ 0#8 p d rfl⟩

theorem code_word (k : BitVec 4) (d : Byte) : HasCode k (lkWord k d) := extract_append_high k d

theorem op_word (k : BitVec 2) (l : BitVec 3) : HasOp k (iqWord k l) := extract_append_top k 0#1 l

theorem mrd (a) : Statement (.mrd a) := fun _ => kind_word _ _ _
theorem mwr (a v) : Statement (.mwr a v) := fun _ => kind_word _ _ _
theorem inta (a) : Statement (.inta a) := fun _ => kind_word _ _ _
theorem inp (p) : Statement (.inp p) := fun _ => kind_io _ _ _
theorem out (p v) : Statement (.out p v) := fun _ => kind_io _ _ _
theorem tick (c) : Statement (.tick c) := fun _ => kind_word _ _ _
theorem reset : Statement .reset := fun _ => kind_word _ _ _
theorem gppWr (v) : Statement (.gppWr v) := fun _ => kind_port _ _ _
theorem gppRd : Statement .gppRd := fun _ => kind_port _ _ _
theorem z47Stat : Statement .z47Stat := fun _ => kind_port _ _ _
theorem z47Cmd (v) : Statement (.z47Cmd v) := fun _ => kind_port _ _ _
theorem z47Din : Statement .z47Din := fun _ => kind_port _ _ _
theorem z47Dout (v) : Statement (.z47Dout v) := fun _ => kind_port _ _ _
theorem sendHost (v) : Statement (.sendHost v) := fun _ => code_word _ _
theorem sendDrive (v) : Statement (.sendDrive v) := fun _ => code_word _ _
theorem readByHost : Statement .readByHost := fun _ => code_word _ _
theorem readByDrive : Statement .readByDrive := fun _ => code_word _ _
theorem setBusy (b) : Statement (.setBusy b) := fun _ => code_word _ _
theorem setDtr (b) : Statement (.setDtr b) := fun _ => code_word _ _
theorem setDdout (b) : Statement (.setDdout b) := fun _ => code_word _ _
theorem setError (b) : Statement (.setError b) := fun _ => code_word _ _
theorem setMr (b) : Statement (.setMr b) := fun _ => code_word _ _
theorem setDtak (b) : Statement (.setDtak b) := fun _ => code_word _ _
theorem raiseInt (l) : Statement (.raiseInt l) := fun _ => op_word _ _
theorem lowerInt (l) : Statement (.lowerInt l) := fun _ => op_word _ _
theorem raiseNmi : Statement .raiseNmi := fun _ => op_word _ _
theorem z47Rsb : Statement .z47Rsb := fun _ => rfl
theorem z47Wsb : Statement .z47Wsb := fun _ => rfl
theorem z47Rcs : Statement .z47Rcs := fun _ => rfl

theorem z47Invalid (b) : Statement (.z47Invalid b) := by
  intro h
  simp only [Instr.wf, Codes.noCommand, Bool.and_eq_true, bne_iff_ne, and_assoc] at h
  exact h

end Sys2Proof.Laws.OpcodeRow
end

