-- ==== Sys2Proof/Laws/Signals.lean ====
section
/-! SUPPORT. What the signal operations do to the link, the card and the log: one lemma for each operation and record. -/

namespace Sys2Proof.Machine

variable (s : State)

/-! ### The card's request -/

/-- The card's registers after its request is recomputed: the level last sent is the wanted one (R297). -/
@[simp] theorem recomputeIrq_hif : (recomputeIrq s).hif = { s.hif with irq := irqWanted s.hif s.link } := by
  unfold recomputeIrq
  dsimp only
  split
  · rename_i h; rw [h]
  · split <;> simp

/-- The card's registers after the host hears a drive-owned signal. -/
theorem hostSignal_hif :
    (hostSignal s).hif = if s.cfg.host = some .card then { s.hif with irq := irqWanted s.hif s.link } else s.hif := by
  unfold hostSignal
  split <;> simp_all

/-- A level the controller has adds no log entry (R243). -/
theorem recomputeIrq_log (h : s.cfg.z47IntLevel < s.cfg.intLevels.val) : (recomputeIrq s).log = s.log := by
  unfold recomputeIrq
  dsimp only
  split
  · rfl
  · split <;> simp [raiseInt, lowerInt, Nat.not_le.2 h, State.called]

/-- The host's handlers add no log entry (R9 (e), R295). -/
theorem hostSignal_log (h : s.cfg.z47IntLevel < s.cfg.intLevels.val) : (hostSignal s).log = s.log := by
  unfold hostSignal
  split
  · exact recomputeIrq_log s h
  · rfl
  · rfl

/-! ### The signal shadows (R264) -/

@[simp] theorem setBusy_link (b : Bool) : (setBusy b s).link = { s.link with busy := b } := by simp [setBusy]
@[simp] theorem setDtr_link (b : Bool) : (setDtr b s).link = { s.link with dtr := b } := by simp [setDtr]
@[simp] theorem setDdout_link (b : Bool) : (setDdout b s).link = { s.link with ddOut := b } := by simp [setDdout]
@[simp] theorem setError_link (b : Bool) : (setError b s).link = { s.link with error := b } := by simp [setError]

/-- A drive-owned signal leaves the card's own registers, but for the request. -/
@[simp] theorem hostSignal_hif_registers :
    (hostSignal s).hif.ie = s.hif.ie ∧ (hostSignal s).hif.mr = s.hif.mr ∧ (hostSignal s).hif.u137b = s.hif.u137b := by
  rw [hostSignal_hif]
  split <;> simp

@[simp] theorem setBusy_hif_registers (b : Bool) :
    (setBusy b s).hif.ie = s.hif.ie ∧ (setBusy b s).hif.mr = s.hif.mr ∧ (setBusy b s).hif.u137b = s.hif.u137b := by
  simp [setBusy]

@[simp] theorem setDtr_hif_registers (b : Bool) :
    (setDtr b s).hif.ie = s.hif.ie ∧ (setDtr b s).hif.mr = s.hif.mr ∧ (setDtr b s).hif.u137b = s.hif.u137b := by
  simp [setDtr]

@[simp] theorem setDdout_hif_registers (b : Bool) :
    (setDdout b s).hif.ie = s.hif.ie ∧ (setDdout b s).hif.mr = s.hif.mr ∧ (setDdout b s).hif.u137b = s.hif.u137b := by
  simp [setDdout]

@[simp] theorem setError_hif_registers (b : Bool) :
    (setError b s).hif.ie = s.hif.ie ∧ (setError b s).hif.mr = s.hif.mr ∧ (setError b s).hif.u137b = s.hif.u137b := by
  simp [setError]

/-- The four signal operations leave the log (R9 (e)). -/
theorem signals_log (h : s.cfg.z47IntLevel < s.cfg.intLevels.val) (b : Bool) :
    (setBusy b s).log = s.log ∧ (setDtr b s).log = s.log ∧ (setDdout b s).log = s.log ∧ (setError b s).log = s.log :=
  ⟨hostSignal_log _ h, hostSignal_log _ h, hostSignal_log _ h, hostSignal_log _ h⟩

/-! ### The data path (R260 to R263) -/

@[simp] theorem sendHost_link (v : Byte) :
    (sendHost v s).link = { s.link with data := v, dataFromHost := true, dataFromDrive := false } := by
  unfold sendHost; dsimp only; split <;> simp

@[simp] theorem sendDrive_link (v : Byte) :
    (sendDrive v s).link = { s.link with data := v, dataFromDrive := true, dataFromHost := false } := by
  unfold sendDrive; dsimp only; split <;> simp

@[simp] theorem readByHost_link : (readByHost s).2.link = { s.link with dataFromDrive := false } := rfl
@[simp] theorem readByDrive_link : (readByDrive s).2.link = { s.link with dataFromHost := false } := rfl
@[simp] theorem readByHost_byte : (readByHost s).1 = s.link.data := rfl
@[simp] theorem readByDrive_byte : (readByDrive s).1 = s.link.data := rfl

/-! ### The controller's handlers -/

@[simp] theorem masterReset_z47 : (masterReset s).z47 = Z47.initial := by simp [masterReset]

@[simp] theorem masterReset_link :
    (masterReset s).link = { s.link with busy := false, ddOut := false, error := false, dtr := true } := by
  simp [masterReset]

@[simp] theorem masterReset_hif_registers :
    (masterReset s).hif.ie = s.hif.ie ∧ (masterReset s).hif.mr = s.hif.mr ∧ (masterReset s).hif.u137b = s.hif.u137b := by
  simp [masterReset]

/-- A lowered host-owned signal only writes its shadow (R325). -/
@[simp] theorem setMr_false : setMr false s = s.setLink { s.link with masterReset := false } := by
  unfold setMr deviceSignal
  split <;> simp

/-- A lowered host-owned signal only writes its shadow (R325). -/
@[simp] theorem setDtak_false : setDtak false s = s.setLink { s.link with dtak := false } := by
  unfold setDtak deviceSignal
  split <;> simp

end Sys2Proof.Machine
end

