-- ==== Sys2Proof/Laws/Settle.lean ====
section
/-! SUPPORT. The signal operations as one update of the state each: `settleIrq` (Safety.lean) is the card's recomputed request. Two states
are equal where their fields are, and the reset broadcast keeps what each device's reset keeps. -/

namespace Sys2Proof.Machine

/-- Two states are equal where every field is. -/
theorem State.eq_of_fields {a b : State} (cfg : a.cfg = b.cfg) (mem : a.mem = b.mem) (dec : a.dec = b.dec) (gpp : a.gpp = b.gpp)
    (pending : a.pending = b.pending) (link : a.link = b.link) (hif : a.hif = b.hif) (z47 : a.z47 = b.z47)
    (media : a.media = b.media) (log : a.log = b.log) (cpu : a.cpu = b.cpu) (returned : a.returned = b.returned)
    (draws : a.draws = b.draws) (ops : a.ops = b.ops) : a = b := by
  cases a; cases b; simp_all

variable (s : State)

/-- The card's recomputed request is the one update `settleIrq`, for a level the interrupt controller has (R297, R9 (e)). -/
theorem recomputeIrq_eq_settleIrq (h : s.cfg.z47IntLevel < s.cfg.intLevels.val) : recomputeIrq s = settleIrq s := by
  have hl : ¬s.cfg.intLevels.val ≤ s.cfg.z47IntLevel := Nat.not_le.2 h
  unfold recomputeIrq settleIrq
  cases hw : irqWanted s.hif s.link <;> cases hi : s.hif.irq <;>
    simp [raiseInt, lowerInt, hl, State.called, State.setHif, State.setPending, State.setCpu]

/-- A request that is already the wanted one is left alone (R297). -/
theorem settleIrq_of_current (h : irqWanted s.hif s.link = s.hif.irq) : settleIrq s = s := by
  simp [settleIrq, h]

/-- The registered card hears a drive-owned signal (R295). -/
theorem hostSignal_card (h : s.cfg.z47IntLevel < s.cfg.intLevels.val) (hc : s.cfg.host = some .card) : hostSignal s = settleIrq s := by
  simp [hostSignal, hc, recomputeIrq_eq_settleIrq s h]

/-- A host outside the block, or none, leaves the block's state alone. -/
theorem hostSignal_not_card (hc : s.cfg.host ≠ some .card) : hostSignal s = s := by
  unfold hostSignal; split <;> simp_all

/-- What the request's update leaves alone, and the request it leaves. -/
@[simp] theorem settleIrq_frame :
    (settleIrq s).cfg = s.cfg ∧ (settleIrq s).mem = s.mem ∧ (settleIrq s).dec = s.dec ∧ (settleIrq s).gpp = s.gpp ∧
    (settleIrq s).link = s.link ∧ (settleIrq s).z47 = s.z47 ∧ (settleIrq s).media = s.media ∧
    (settleIrq s).log = s.log ∧ (settleIrq s).returned = s.returned ∧ (settleIrq s).draws = s.draws ∧
    (settleIrq s).ops = s.ops ∧ (settleIrq s).hif = { s.hif with irq := irqWanted s.hif s.link } := by
  unfold settleIrq
  obtain ⟨_, _, _, _, _, _, ⟨_, _, _, irq⟩, _, _, _, _, _, _, _⟩ := s
  dsimp only
  generalize irqWanted _ _ = w
  cases w <;> cases irq <;> simp

/-- What every device's reset keeps, the reset broadcast keeps. -/
theorem ioReset_keeps {β : Type} (f : State → β) (h : ∀ d t, f (deviceReset d t) = f t) : f (ioReset s) = f s := by
  have key (l : List Device) (t : State) : f (l.foldl (fun t d => deviceReset d t) t) = f t := by
    induction l generalizing t with
    | nil => rfl
    | cons d l ih => rw [List.foldl_cons, ih, h]
  exact key _ s

/-- What the reset broadcast leaves alone (R166). -/
@[simp] theorem ioReset_frame :
    (ioReset s).cfg = s.cfg ∧ (ioReset s).mem = s.mem ∧ (ioReset s).dec = s.dec ∧ (ioReset s).media = s.media ∧
    (ioReset s).returned = s.returned ∧ (ioReset s).draws = s.draws ∧ (ioReset s).ops = s.ops :=
  ⟨ioReset_keeps s State.cfg (by simp), ioReset_keeps s State.mem (by simp), ioReset_keeps s State.dec (by simp),
   ioReset_keeps s State.media (by simp), ioReset_keeps s State.returned (by simp), ioReset_keeps s State.draws (by simp),
   ioReset_keeps s State.ops (by simp)⟩

end Sys2Proof.Machine
end

