-- ==== Sys2Proof/Tests/Slice0.lean ====
section
/-! SUPPORT. Small tests. What is expected comes from the spec: the encoding tables of 30_encoding.md, the examples of the rules, the
vectors of 95_test_vectors.md (V numbers) and 00_scope.md rule R9. The witnesses at the end show, for each statement that has
hypotheses, states and operands that meet them. -/

open Sys2Proof Sys2Proof.Machine

/-! ### Well-formedness: a term that each check refuses -/

theorem test_wf_gpp_port_is_not_plain : (Instr.inp 0xF2#8).wf Codes.table = false := by decide
theorem test_wf_status_port_is_not_plain : (Instr.out 0x78#8 0#8).wf Codes.table = false := by decide
theorem test_wf_data_port_is_not_plain : (Instr.inp 0x79#8).wf Codes.table = false := by decide
theorem test_wf_rsb_is_a_command : (Instr.z47Invalid 0x07#8).wf Codes.table = false := by decide
theorem test_wf_wsb_is_a_command : (Instr.z47Invalid 0x08#8).wf Codes.table = false := by decide
theorem test_wf_rcs_is_a_command : (Instr.z47Invalid 0x01#8).wf Codes.table = false := by decide
theorem test_wf_other_ports_and_bytes :
    (Instr.inp 0x7A#8).wf Codes.table = true ∧ (Instr.z47Invalid 0x55#8).wf Codes.table = true := by decide

/-- R9 (d) and (f), each broken once. -/
theorem test_codes_refused :
    Codes.ok ⟨0xF2#8, 0xFF#8, 0x08#8, 0x01#8⟩ = false ∧ Codes.ok ⟨0x78#8, 0x78#8, 0x08#8, 0x01#8⟩ = false ∧
    Codes.ok ⟨0x79#8, 0x78#8, 0x08#8, 0x01#8⟩ = false ∧ Codes.ok ⟨0xF2#8, 0x78#8, 0x07#8, 0x01#8⟩ = false ∧
    Codes.ok ⟨0xF2#8, 0x78#8, 0x08#8, 0x07#8⟩ = false ∧ Codes.ok ⟨0xF2#8, 0x78#8, 0x01#8, 0x01#8⟩ = false ∧
    Codes.table.ok = true := by decide

/-- The reference configuration of R97. -/
def refCfg (v : Variant) : Config := Config.reference v

/-- R9 (a), (b), (c), (e), each broken once, and the three reference configurations. -/
theorem test_config_refused :
    Config.ok { refCfg .h89 with h89Org0Mask := 0x30#8 } = false ∧
    Config.ok { refCfg .mms77318 with h89Org0Mask := 0xF0#8 } = false ∧
    Config.ok { refCfg .h89 with mmsBankMask := 0xC0#8 } = false ∧
    Config.ok { refCfg .h89 with mmsBankMask := 0x0D#8 } = false ∧
    Config.ok { refCfg .h89 with pages := [⟨.wur 0#8 0#8 0, 0#3⟩] } = false ∧
    Config.ok { refCfg .h89 with z47IntLevel := 8 } = false ∧ Config.ok { refCfg .h89 with intLevels := 4 } = false ∧
    (refCfg .h88).ok = true ∧ (refCfg .h89).ok = true ∧ (refCfg .mms77318).ok = true := by decide

/-! ### Decoding: every row from a word written out from the tables (V30) -/

theorem test_decode_mrd : decodeTableWord 32 0x0010000 = some (.mrd 0x0100#16) := by decide
theorem test_decode_mwr : decodeTableWord 32 0x1E0005A = some (.mwr 0xE000#16 0x5A#8) := by decide
theorem test_decode_inta : decodeTableWord 32 0x2000000 = some (.inta 0#16) := by decide
theorem test_decode_in : decodeTableWord 32 0x3001000 = some (.inp 0x10#8) := by decide
theorem test_decode_out : decodeTableWord 32 0x4001055 = some (.out 0x10#8 0x55#8) := by decide
theorem test_decode_tick : decodeTableWord 32 0x5007800 = some (.tick 120#16) := by decide
theorem test_decode_reset : decodeTableWord 32 0x60000FF = some .reset := by decide
theorem test_decode_gppWr : decodeTableWord 32 0x400F220 = some (.gppWr 0x20#8) := by decide
theorem test_decode_gppRd : decodeTableWord 32 0x312F200 = some .gppRd := by decide
theorem test_decode_z47Stat : decodeTableWord 32 0x3007800 = some .z47Stat := by decide
theorem test_decode_z47Cmd : decodeTableWord 32 0x4007843 = some (.z47Cmd 0x43#8) := by decide
theorem test_decode_z47Din : decodeTableWord 32 0x3007900 = some .z47Din := by decide
theorem test_decode_z47Dout : decodeTableWord 32 0x4007907 = some (.z47Dout 0x07#8) := by decide
theorem test_decode_sendHost : decodeTableWord 16 0x007 = some (.sendHost 0x07#8) := by decide
theorem test_decode_sendDrive : decodeTableWord 16 0x14A = some (.sendDrive 0x4A#8) := by decide
theorem test_decode_reads :
    decodeTableWord 16 0x200 = some .readByHost ∧ decodeTableWord 16 0x300 = some .readByDrive := by decide
theorem test_decode_signals :
    decodeTableWord 16 0x401 = some (.setBusy true) ∧ decodeTableWord 16 0x5FF = some (.setDtr true) ∧
    decodeTableWord 16 0x600 = some (.setDdout false) ∧ decodeTableWord 16 0x701 = some (.setError true) ∧
    decodeTableWord 16 0x801 = some (.setMr true) ∧ decodeTableWord 16 0x901 = some (.setDtak true) := by decide
theorem test_decode_lines :
    decodeTableWord 6 0x0C = some (.raiseInt 4#3) ∧ decodeTableWord 6 0x14 = some (.lowerInt 4#3) ∧
    decodeTableWord 6 0x27 = some .raiseNmi := by decide
theorem test_decode_commands :
    decodeTableWord 8 0x07 = some .z47Rsb ∧ decodeTableWord 8 0x08 = some .z47Wsb ∧
    decodeTableWord 8 0x01 = some .z47Rcs ∧ decodeTableWord 8 0x55 = some (.z47Invalid 0x55#8) := by decide
theorem test_decode_reserved :
    decodeTableWord 32 0x7000000 = none ∧ decodeTableWord 16 0xA00 = none ∧ decodeTableWord 16 0xFFF = none ∧
    decodeTableWord 6 0x30 = none ∧ decodeTableWord 6 0x3F = none := by decide

/-- The words of T, LK and IQ bit by bit, from the layouts of R121, R127 and R129. -/
theorem test_decode_bits :
    decode Codes.table (.t 0b001_1110000000000000_01011010#27) = .ok (.mwr 0xE000#16 0x5A#8) ∧
    decode Codes.table (.lk 0b0001_01001010#12) = .ok (.sendDrive 0x4A#8) ∧
    decode Codes.table (.iq 0b01_0_100#6) = .ok (.lowerInt 4#3) ∧
    decode Codes.table (.zc 0b00000111#8) = .ok .z47Rsb := by decide

/-! ### One step of each operation -/

/-- What a test looks at after one operation. -/
def after {α : Type} (i : Instr) (s : State) (f : State → α) : Option α :=
  match exec i s with
  | .next t => some (f t)
  | .fault _ => none
  | .refused _ => none

/-- The H89 after power-on, with three bytes of W0's image (V40). -/
def h89 : State := { State.reset with mem := [(8192, 0x5A#8), (8192 + 0x1000, 0xBB#8), (8192 + 0x1400, 0x5A#8)] }

/-- The MMS77318 after power-on. -/
def mms : State := powerOn (Config.reference .mms77318) [] [[], []]

/-- The H88 after power-on. -/
def h88 : State := powerOn (Config.reference .h88) [] [[], []]

/-- The H89 with the controller in a link state. -/
def inLink (l : LinkState) : State := { State.reset with z47 := { Z47.initial with linkState := l } }

/-- The H89 with a command running: Ready, busy, at a position. -/
def running (c : CtrlState) (pos : Nat) : State :=
  { State.reset with
    link := { State.reset.link with busy := true, dtr := false }
    z47 := { Z47.initial with linkState := .ready, ctrlState := c, statePosition := pos } }

theorem test_mrd_overlay_rom : after (.mrd 0x0000#16) h89 (·.returned) = some (some 0x5A#8) := by decide -- V40-1
theorem test_mrd_not_installed : after (.mrd 0x1000#16) h89 (·.returned) = some (some 0x00#8) := by decide -- V40-3
theorem test_mwr_under_rom : -- V40-6
    after (.mwr 0x0800#16 0x11#8) h89 (fun t => (t.pageByte 1 0x0800#13, t.pageByte 2 0x0800#13)) = some (0x00#8, 0x11#8) := by
  decide
theorem test_mwr_overlay_ram : -- V40-7
    after (.mwr 0x1400#16 0x33#8) h89 (fun t => (t.pageByte 1 0x1400#13, t.pageByte 2 0x1400#13)) = some (0x33#8, 0x33#8) := by
  decide
theorem test_inta_none : after (.inta 0#16) State.reset (·.returned) = some (some 0xFF#8) := by decide -- V40-10
theorem test_inta_highest : -- V42-2
    after (.inta 0x1234#16) { State.reset with pending := 0x12#8 } (fun t => (t.returned, t.pending)) =
      some (some 0xE7#8, 0x12#8) := by decide
theorem test_in_unclaimed : after (.inp 0x10#8) State.reset (·.returned) = some (some 0xFF#8) := by decide -- V40-12
theorem test_in_status : after (.inp 0x78#8) State.reset (·.returned) = some (some 0xA0#8) := by decide -- V70-2
theorem test_out_gpp : -- V40-15
    after (.out 0xF2#8 0x22#8) State.reset (fun t => (t.gpp, t.dec.curBank)) = some (0x22#8, 1) := by decide
theorem test_out_command : -- V44-9
    after (.out 0x78#8 0x43#8) State.reset (fun t => (t.hif, t.pending, t.cpu)) =
      some (⟨true, true, true, true⟩, 0x10#8, [.raiseInt 4]) := by decide
theorem test_tick_countdown : -- V40-18
    after (.tick 50#16) { State.reset with z47 := { Z47.initial with linkState := .awaitingReadyState, countDown := 120 } }
      (fun t => (t.z47.countDown, t.z47.linkState)) = some (70, .awaitingReadyState) := by decide
theorem test_tick_ends_countdown : -- V45-14
    after (.tick 50#16) { State.reset with z47 := { Z47.initial with linkState := .awaitingReadyState, countDown := 10 } }
      (fun t => (t.z47.countDown, t.z47.linkState)) = some (0, .ready) := by decide
theorem test_reset_relocks : -- V40-20
    after .reset { mms with dec := ⟨0xE0#8, 5, 6⟩ } (·.dec) = some ⟨0x2C#8, 0, 0⟩ := by decide
theorem test_reset_lowers_request : -- V44-16
    after .reset { State.reset with hif := ⟨true, false, false, true⟩, pending := 0x10#8 }
      (fun t => (t.hif, t.pending, t.cpu)) = some (⟨false, false, false, false⟩, 0x00#8, [.lowerInt 4]) := by decide
theorem test_gppWr_locked : -- V41-7
    after (.gppWr 0x24#8) mms (·.dec) = some ⟨0x2C#8, 1, 1⟩ := by decide
theorem test_gppWr_unlocked : -- V41-9
    after (.gppWr 0x80#8) { mms with dec := ⟨0xE0#8, 0, 6⟩ } (·.dec) = some ⟨0xE0#8, 4, 6⟩ := by decide
theorem test_gppRd : -- R212
    after .gppRd { State.reset with gpp := 0x22#8, cfg := { State.reset.cfg with gppInValue := 0x81#8 } } (·.returned) =
      some (some 0x81#8) := by decide
theorem test_z47Stat_all : -- V44-5
    after .z47Stat { State.reset with hif := ⟨true, false, false, true⟩, link := { State.reset.link with error := true } }
      (·.returned) = some (some 0xE1#8) := by decide
theorem test_z47Stat_busy : -- V44-2
    after .z47Stat (running .readSectorsBuffered 3) (·.returned) = some (some 0x00#8) := by decide
theorem test_z47Cmd_ignored_bits : -- V44-12
    after (.z47Cmd 0xBC#8) State.reset (fun t => (t.hif, t.cpu)) = some (⟨false, false, false, false⟩, []) := by decide
theorem test_z47Cmd_resets : -- V45-20
    after (.z47Cmd 0x02#8) (running .writeSectorsBuffered 9) (fun t => (t.z47 = Z47.initial ∧ t.link.dtr = true ∧ t.link.busy = false)) =
      some True := by
  refine congrArg some (eq_true ?_)
  decide
theorem test_z47Din_takes_the_byte : -- R292's example
    after .z47Din { inLink .awaitingTransmitComplete with link := { State.reset.link with data := 0x5A#8, dataFromDrive := true } }
      (fun t => (t.returned, t.z47.linkState, t.link.dataFromDrive, t.link.dtak)) =
      some (some 0x5A#8, .holdingDTR, false, false) := by decide
theorem test_z47Dout_delivers : -- V44-14
    after (.z47Dout 0x07#8) State.reset (fun t => (t.z47.rxByte, t.z47.rxPending, t.z47.linkState, t.link.dtr)) =
      some (0x07#8, true, .ready, false) := by decide
theorem test_z47Dout_loses_an_offer : -- V45-18
    after (.z47Dout 0x99#8) { inLink .awaitingTransmitComplete with link := { State.reset.link with dataFromDrive := true } }
      (fun t => (t.z47.linkState, t.log, t.link.data, t.link.dataFromHost)) =
      some (.holdingDTR, [.linkContention .host], 0x99#8, true) := by decide
theorem test_sendHost : -- V43-1
    after (.sendHost 0x07#8) State.reset (fun t => (t.link.data, t.link.dataFromHost, t.log)) = some (0x07#8, true, []) := by
  decide
theorem test_sendDrive_contention : -- V43-2
    after (.sendDrive 0x4A#8) { State.reset with link := { State.reset.link with data := 0x07#8, dataFromHost := true } }
      (fun t => (t.link.data, t.link.dataFromHost, t.link.dataFromDrive, t.log)) =
      some (0x4A#8, false, true, [.linkContention .drive]) := by decide
theorem test_readByHost : -- V43-3
    after .readByHost { State.reset with link := { State.reset.link with data := 0x4A#8, dataFromDrive := true } }
      (fun t => (t.returned, t.link.dataFromDrive)) = some (some 0x4A#8, false) := by decide
theorem test_readByDrive : -- V43-4
    after .readByDrive { State.reset with link := { State.reset.link with data := 0x05#8, dataFromHost := true } }
      (fun t => (t.returned, t.link.dataFromHost)) = some (some 0x05#8, false) := by decide
theorem test_setBusy : after (.setBusy true) State.reset (·.link.busy) = some true := by decide -- V43-6
theorem test_setDtr_raises : -- V43-7
    after (.setDtr true)
      { State.reset with link := { State.reset.link with dtr := false, busy := true }, hif := ⟨true, false, false, false⟩ }
      (fun t => (t.link.dtr, t.pending, t.cpu, t.hif.irq)) = some (true, 0x10#8, [.raiseInt 4], true) := by decide
theorem test_setDdout : after (.setDdout true) State.reset (·.link.ddOut) = some true := by decide -- R269
theorem test_setError : after (.setError true) State.reset (·.link.error) = some true := by decide -- R270
theorem test_setMr : -- V43-8
    after (.setMr true) (running .readSectorsBuffered 14) (fun t => (t.z47.ctrlState, t.z47.linkState)) =
      some (.none, .awaitingToReceive) := by decide
theorem test_setDtak : -- V43-10
    after (.setDtak true) (inLink .awaitingTransmitComplete) (·.z47.linkState) = some .holdingDTR := by decide
theorem test_raiseInt : -- R240's example
    after (.raiseInt 4#3) State.reset (fun t => (t.pending, t.cpu)) = some (0x10#8, [.raiseInt 4]) := by decide
theorem test_lowerInt : -- R241's example
    after (.lowerInt 2#3) { State.reset with pending := 0x14#8 } (fun t => (t.pending, t.cpu)) =
      some (0x10#8, [.lowerInt 2]) := by decide
theorem test_lowerInt_clear : -- V42-4
    after (.lowerInt 4#3) { State.reset with pending := 0x02#8 } (fun t => (t.pending, t.cpu)) =
      some (0x02#8, [.lowerInt 4]) := by decide
theorem test_raiseInt_no_such_level : -- R243, with fewer levels than R8 gives
    after (.raiseInt 4#3) { State.reset with cfg := { State.reset.cfg with intLevels := 4 } }
      (fun t => (t.pending, t.cpu, t.log)) = some (0x00#8, [], [.intLevelRange 4]) := by decide
theorem test_raiseNmi : -- V42-8
    after .raiseNmi { State.reset with pending := 0x81#8 } (fun t => (t.pending, t.cpu)) = some (0x81#8, [.raiseNmi]) := by decide
theorem test_z47Rsb : -- R340, V44-14
    after .z47Rsb State.reset (fun t => (t.z47.rxByte, t.z47.rxPending, t.z47.linkState)) = some (0x07#8, true, .ready) := by
  decide
theorem test_z47Wsb : after .z47Wsb State.reset (·.z47.rxByte) = some 0x08#8 := by decide -- R341
theorem test_z47Rcs : after .z47Rcs State.reset (·.z47.rxByte) = some 0x01#8 := by decide -- R343
theorem test_z47Invalid_completes : -- V45-1
    (runOps [.z47Invalid 0x55#8, .tick 1#16] State.reset).map (fun r =>
      (r.1.z47.linkState, r.1.z47.countDown, r.1.z47.err.invalidCommandReceived, r.1.link.error, r.1.link.busy)) =
      some (.awaitingReadyState, 120, true, true, false) := by decide
theorem test_step_runs_the_word_issued :
    (match step (State.reset.withFetchWord 32 0x400F222) with
      | .next t => some (t.dec.curBank, t.ops)
      | .fault _ => none
      | .refused _ => none) = some (1, []) := by decide

/-! ### Witnesses: states and operands that meet the hypotheses of the statements -/

/-- A state with one operation issued. -/
def issued (i : Instr) (s : State) : State := { s with ops := [encode s.cfg.codes i] }

/-- An H89 whose slot 0 of bank 0 holds a ROM page and slot 1 the Nil page. -/
def romState : State :=
  { State.reset with cfg := { State.reset.cfg with
      pages := [⟨.rom, 0#3⟩, ⟨.ram, 2#3⟩], layouts := [[1, 0, 2, 0, 0, 0, 0, 0], [2, 0, 2, 0, 0, 0, 0, 0]] } }

/-- An H89 with a device outside the block on ports 5 to 7. -/
def extState : State :=
  { State.reset with cfg := { State.reset.cfg with claims := State.reset.cfg.claims ++ [⟨.external 3, 5#8, 3⟩] } }

/-- A transfer in its data phase with bytes left. -/
def inData (c : CtrlState) (l : LinkState) (pos left : Nat) : State :=
  { running c pos with z47 := { (running c pos).z47 with linkState := l, bytesToTransfer := left } }

theorem test_witness_DecodeEncodeAgree :
    Codes.table.ok = true ∧ (Instr.out 0xFF#8 5#8).wf Codes.table = true ∧ (Instr.z47Invalid 0#8).wf Codes.table = true ∧
    Codes.ok ⟨0#8, 0xFE#8, 0xFF#8, 0#8⟩ = true := by decide

theorem test_witness_DecodedOperationIsWellFormed :
    decode Codes.table (.t 0x400F220#27) = .ok (.gppWr 0x20#8) ∧ Codes.table.ok = true := by decide

theorem test_witness_TransactionWordsDecodeByKind :
    Codes.table.plainPort 0x77#8 = true ∧ Codes.table.plainPort 0x7A#8 = true ∧ Codes.table.ok = true := by decide

theorem test_witness_ReservedWordsAreThoseRefused :
    State.reset.cfg.ok = true ∧
    { State.reset with ops := [.t 0x7000000#27] }.ops = .t 0x7000000#27 :: [] ∧
    { State.reset with ops := [.lk 0xA00#12] }.ops = .lk 0xA00#12 :: [] ∧
    { State.reset with ops := [.iq 0x30#6] }.ops = .iq 0x30#6 :: [] ∧
    { State.reset with ops := [.zc 0xFF#8] }.ops = .zc 0xFF#8 :: [] := by decide

theorem test_witness_StepRunsDecodedOperation :
    State.reset.cfg.ok = true ∧ (issued .reset State.reset).ops = .t 0x6000000#27 :: [] ∧
    decode State.reset.cfg.codes (.t 0x6000000#27) = .ok .reset ∧
    decode State.reset.cfg.codes (tableWord 32 0x6000000) = .ok .reset ∧ State.reset.ops = [] := by decide

/-- One configuration for each of the clauses. -/
theorem test_witness_IllegalConfigurationRefused :
    (let c := { refCfg .h89 with h89Org0Mask := 0x30#8 }; c.variant = .h89 ∧ c.nBanks < 2 ^ popcount c.h89Org0Mask) ∧
    (let c := { refCfg .mms77318 with h89Org0Mask := 0xF0#8 };
      c.variant = .mms77318 ∧ (c.nBanks < 2 ^ popcount c.h89Org0Mask ∨ c.nBanks < 2 ^ popcount c.mmsBankMask)) ∧
    popcount { refCfg .h89 with mmsBankMask := 0xC0#8 }.mmsBankMask ≠ 3 ∧
    (let c := { refCfg .h89 with mmsBankMask := 0x0D#8 }; c.mmsBankMask &&& c.mmsUnlockMask ≠ 0#8) ∧
    (let c := { refCfg .h89 with pages := [⟨.wur 0#8 0#8 0, 0#3⟩] };
      ⟨.wur 0#8 0#8 0, 0#3⟩ ∈ c.pages ∧ c.kind 0 ≠ .ram) ∧
    Codes.z47PortBase ⟨0xF2#8, 0xFF#8, 0x08#8, 0x01#8⟩ = 0xFF#8 ∧
    (let c : Codes := ⟨0x78#8, 0x78#8, 0x08#8, 0x01#8⟩; c.gppPort = c.z47PortBase) ∧
    (let c : Codes := ⟨0x79#8, 0x78#8, 0x08#8, 0x01#8⟩; c.gppPort = c.z47PortBase + 1#8) ∧
    (refCfg .h89).intLevels.val ≤ { refCfg .h89 with z47IntLevel := 8 }.z47IntLevel ∧
    Codes.cmdWsb ⟨0xF2#8, 0x78#8, 0x07#8, 0x01#8⟩ = 0x07#8 ∧ Codes.cmdRcs ⟨0xF2#8, 0x78#8, 0x08#8, 0x07#8⟩ = 0x07#8 ∧
    (let c : Codes := ⟨0xF2#8, 0x78#8, 0x01#8, 0x01#8⟩; c.cmdWsb = c.cmdRcs) := by decide

/-- RAM, ROM, Nil, and W0 at the last offset of an installed sub-block and the first of the one that is not (V40-2, V40-3). -/
theorem test_witness_MrdReturnsTheResolvedByte :
    (State.reset.cfg.layoutPage 0 ((0xFFFF#16).extractLsb' 13 3) = 9 ∧ (0xFFFF#16).extractLsb' 0 13 = 0x1FFF#13 ∧
      State.reset.cfg.kind 9 = .ram) ∧
    (romState.cfg.layoutPage romState.dec.curBank ((0#16).extractLsb' 13 3) = 1 ∧ romState.cfg.kind 1 = .rom) ∧
    (romState.cfg.layoutPage romState.dec.curBank ((0x2000#16).extractLsb' 13 3) = 0 ∧ romState.cfg.kind 0 = .nil) ∧
    (State.reset.cfg.layoutPage 0 ((0x0FFF#16).extractLsb' 13 3) = 1 ∧ State.reset.cfg.kind 1 = .wur 0xCF#8 0xEF#8 2 ∧
      (0xEF#8).getLsbD ((0x0FFF#13).extractLsb' 10 3).toNat = true ∧
      (0xEF#8).getLsbD ((0x1000#13).extractLsb' 10 3).toNat = false) := by decide

theorem test_witness_MwrStoresWhereThePageSays :
    State.reset.mem.wf = true ∧ State.reset.cfg.kind (resolve State.reset 0xFFFF#16) = .ram ∧
    romState.mem.wf = true ∧ romState.cfg.kind (resolve romState 0#16) = .rom ∧
    romState.cfg.kind (resolve romState 0x2000#16) = .nil ∧
    State.reset.cfg.kind (resolve State.reset 0x1400#16) = .wur 0xCF#8 0xEF#8 2 ∧ State.reset.cfg.kind 2 = .ram := by decide

theorem test_witness_WrittenByteIsReadBackThroughAnyBank :
    ∃ t, State.reset.mem.wf = true ∧ State.reset.cfg.kind (resolve State.reset 0xE000#16) = .ram ∧
      exec (.mwr 0xE000#16 0x5A#8) State.reset = .next t ∧
      State.reset.cfg.kind (resolve { t with dec := ⟨0x20#8, 1, 0⟩ } 0xE000#16) = .ram :=
  ⟨_, by decide, by decide, rfl, by decide⟩

theorem test_reset_decoder_legal : State.reset.DecoderLegal := ⟨by decide, by decide, by decide⟩

theorem test_witness_WriteUnderRomShowsInOrg0 :
    State.reset.mem.wf = true ∧ State.reset.cfg.variant = .h89 ∧ State.reset.cfg.wired = true ∧
    State.reset.dec.curBank = 0 ∧ State.reset.cfg.layoutPage 0 (slotOf 0x0FFF#16) = 1 ∧
    State.reset.cfg.kind 1 = .wur 0xCF#8 0xEF#8 2 ∧ State.reset.cfg.kind 2 = .ram ∧
    State.reset.cfg.layoutPage 1 (slotOf 0x0FFF#16) = 2 ∧ maskBit 0xEF#8 (subBlock (offsetOf 0x0FFF#16)) = true ∧
    maskBit 0xCF#8 (subBlock (offsetOf 0x0FFF#16)) = true ∧ pext 0x20#8 State.reset.cfg.h89Org0Mask = 1 := by
  decide

theorem test_witness_RomBytesNeverChange :
    (∃ t, romState.mem.wf = true ∧ exec (.mwr 0#16 1#8) romState = .next t ∧ romState.cfg.kind 1 = .rom) ∧
    (∃ t, State.reset.mem.wf = true ∧ exec (.mwr 0#16 1#8) State.reset = .next t ∧
      State.reset.cfg.kind 1 = .wur 0xCF#8 0xEF#8 2 ∧ (0xCF#8).getLsbD (subBlock 0x0000#13).toNat = true ∧
      (0xEF#8).getLsbD (subBlock 0x1000#13).toNat = false) :=
  ⟨⟨_, by decide, rfl, by decide⟩, ⟨_, by decide, rfl, by decide, by decide, by decide⟩⟩

/-- RESET for the stores, and for the decoder a read, and an OUT next to the GPP's port. -/
theorem test_witness_OnlyMwrAndTickStore :
    (∃ t, exec .reset State.reset = .next t) ∧ (∀ a v, Instr.reset ≠ .mwr a v) ∧ (∀ c, Instr.reset ≠ .tick c) ∧
    (∃ t, exec (.out 0xF3#8 0x20#8) State.reset = .next t) ∧
    (∀ k, State.reset.cfg.owner 0xF3#8 = some k → k.dev = .gpp → k.base ≠ 0xF3#8) ∧
    (∀ k, State.reset.cfg.owner State.reset.cfg.codes.z47PortBase = some k → k.dev = .gpp →
      k.base ≠ State.reset.cfg.codes.z47PortBase) := by
  have hn : State.reset.cfg.owner 0xF3#8 = none := by decide
  have ho : State.reset.cfg.owner State.reset.cfg.codes.z47PortBase = some ⟨.hif, 0x78#8, 2⟩ := by decide
  refine ⟨⟨_, rfl⟩, by simp, by simp, ⟨_, rfl⟩, ?_, ?_⟩
  · rintro k hk; rw [hn] at hk; cases hk
  · rintro k hk hd; rw [ho] at hk; cases hk; cases hd

/-- For StepKeepsCanonical, StepKeepsDecoderLegal, StepKeepsFlagsExclusive and StepKeepsRequestCurrent: each invariant holds of the state after reset, and a step runs an operation from it. -/
theorem test_witness_invariants :
    State.reset.Canonical ∧ State.reset.DecoderLegal ∧ State.reset.FlagsExclusive ∧ State.reset.RequestCurrent ∧
      (issued (.z47Cmd 0x40#8) State.reset).ops ≠ [] ∧
      ∃ t, step (issued (.z47Cmd 0x40#8) State.reset) = .next t ∧ t.hif.irq = true := by
  refine ⟨?_, ?_, ?_, ?_, by decide, _, rfl, by decide⟩
  · unfold State.Canonical; decide
  · exact test_reset_decoder_legal
  · unfold State.FlagsExclusive; decide
  · unfold State.RequestCurrent; decide

/-- A legal controller with a read in its data phase, and a step of it. -/
theorem test_witness_StepKeepsSequencerLegal :
    (inData .readSectorsBuffered .ready 3 128).SequencerLegal ∧ (inData .readSectorsBuffered .ready 3 128).Canonical ∧
    ∃ t, step (issued (.tick 1#16) (inData .readSectorsBuffered .ready 3 128)) = .next t ∧ t.z47.statePosition = 4 := by
  refine ⟨?_, ?_, _, rfl, by decide⟩
  · unfold State.SequencerLegal
    constructor <;> (try unfold Z47.InTransfer) <;> decide
  · unfold State.Canonical; decide

theorem test_witness_UnclaimedPortsFloatAndViewsArePorts :
    State.reset.cfg.owner 0x77#8 = none ∧ State.reset.cfg.owner 0x7A#8 = none ∧ State.reset.cfg.owner 0xF1#8 = none ∧
    State.reset.cfg.owner 0xF3#8 = none := by decide

theorem test_witness_ExternalPortsLeaveTheBlock :
    extState.cfg.owner 5#8 = some ⟨.external 3, 5#8, 3⟩ ∧ extState.cfg.owner 7#8 = some ⟨.external 3, 5#8, 3⟩ := by decide

theorem test_witness_PextPacksLiveBitsInOrder : 7 < 8 ∧ (0x80#8).getLsbD 7 = true ∧ (0x01#8).getLsbD 0 = true := by decide

theorem test_witness_GppWriteOnH88AndH89 :
    h88.cfg.owner 0xF2#8 = some ⟨.gpp, 0xF2#8, 1⟩ ∧ h88.cfg.variant = .h88 ∧ h88.cfg.codes.gppPort = 0xF2#8 ∧
    State.reset.cfg.owner 0xF2#8 = some ⟨.gpp, 0xF2#8, 1⟩ ∧ State.reset.cfg.variant = .h89 := by decide

/-- A mismatch at step 0, a match at step 0, and the match at step 5 that unlocks. -/
theorem test_witness_GppWriteOnLockedMms77318 :
    mms.cfg.owner 0xF2#8 = some ⟨.gpp, 0xF2#8, 1⟩ ∧ mms.cfg.variant = .mms77318 ∧ mms.dec.lockState < 6 ∧
    (1 = if 0x2C#8 &&& mms.cfg.mmsUnlockMask = 0x04#8 then mms.dec.lockState + 1 else 1) ∧
    (1 = if 0x24#8 &&& mms.cfg.mmsUnlockMask = 0x04#8 then mms.dec.lockState + 1 else 1) ∧
    { mms with dec := ⟨0x2C#8, 0, 5⟩ }.dec.lockState < 6 ∧
    (6 = if 0xE8#8 &&& mms.cfg.mmsUnlockMask = [0x04#8, 0x0C#8, 0x04#8, 0x08#8, 0x0C#8, 0x08#8].getD 5 0#8 then 5 + 1 else 1) := by
  decide

theorem test_witness_UnlockSequenceOpensTheBanks :
    mms.cfg.variant = .mms77318 ∧ mms.cfg.wired = true ∧ mms.dec.lockState = 0 ∧
    0x0C#8 &&& mms.cfg.mmsUnlockMask = 0x0C#8 ∧ 0x04#8 &&& mms.cfg.mmsUnlockMask = 0x04#8 ∧
    0x08#8 &&& mms.cfg.mmsUnlockMask = 0x08#8 ∧ 0xE8#8 &&& mms.cfg.mmsUnlockMask = 0x08#8 := by decide

theorem test_witness_UnlockedUntilReset :
    ∃ t t' u, mms.cfg.variant = .mms77318 ∧ { mms with dec := ⟨0xE0#8, 7, 6⟩ }.dec.lockState = 6 ∧
      exec (.gppWr 0xA0#8) { mms with dec := ⟨0xE0#8, 7, 6⟩ } = .next t ∧
      exec (.gppWr 0xBF#8) { mms with dec := ⟨0xE0#8, 7, 6⟩ } = .next t' ∧ mms.cfg.wired = true ∧
      0xA0#8 &&& mms.cfg.mmsBankMask = 0xBF#8 &&& mms.cfg.mmsBankMask ∧
      exec .reset { mms with dec := ⟨0xE0#8, 7, 6⟩ } = .next u :=
  ⟨_, _, _, by decide, by decide, rfl, rfl, by decide, by decide, rfl⟩

theorem test_witness_GppReadReturnsTheSwitches :
    State.reset.cfg.owner 0xF2#8 = some ⟨.gpp, 0xF2#8, 1⟩ ∧ State.reset.cfg.codes.gppPort = 0xF2#8 := by decide

/-- None pending, the lowest and the highest level, and a table read at its last byte. -/
theorem test_witness_IntaReturnsTheVector :
    State.reset.cfg.intaVector = .reference ∧ State.reset.pending = 0x00#8 ∧
    ((0x01#8).getLsbD 0 = true ∧ ∀ m, 0 < m → (0x01#8).getLsbD m = false) ∧
    ((0xFF#8).getLsbD 7 = true ∧ ∀ m, 7 < m → (0xFF#8).getLsbD m = false) ∧
    (0xFF#8).toNat < (List.replicate 256 0xC7#8).length := by
  refine ⟨by decide, by decide, ⟨by decide, fun m hm => ?_⟩, ⟨by decide, fun m hm => ?_⟩, by rw [List.length_replicate]; decide⟩
  · have : m ≠ 0 := by omega
    simp [BitVec.getLsbD_one, this]
  · exact BitVec.getLsbD_of_ge _ _ hm

/-- The highest level of the eight, the first level past four, and a direct call past eight. -/
theorem test_witness_InterruptLineOperations :
    (7#3).toNat < State.reset.cfg.intLevels.val ∧ State.reset.cfg.intLevels.val = 8 ∧
    { State.reset.cfg with intLevels := 4 }.intLevels.val ≤ (4#3).toNat ∧ State.reset.cfg.intLevels.val ≤ 8 ∧
    (raiseInt 8 State.reset).log = [.intLevelRange 8] := by decide

theorem test_witness_SignalsWriteTheirShadow :
    State.reset.cfg.z47IntLevel < State.reset.cfg.intLevels.val ∧ State.reset.cfg.host = some .card ∧
    { State.reset.cfg with host := none }.host ≠ some .card ∧ { State.reset.cfg with device := none }.device ≠ some .controller ∧
    { State.reset.cfg with z47IntLevel := 7 }.z47IntLevel < State.reset.cfg.intLevels.val := by decide

theorem test_witness_MasterResetReinitialises :
    (running .writeSectorsBuffered 9).cfg.z47IntLevel < (running .writeSectorsBuffered 9).cfg.intLevels.val ∧ (running .writeSectorsBuffered 9).cfg.host = some .card ∧
    (running .writeSectorsBuffered 9).cfg.device = some .controller := by decide

/-- A state that waits for a byte with one in the latch, one that offers a byte, and one that does neither. -/
theorem test_witness_DtakActsByLinkState :
    (State.reset.cfg.z47IntLevel < State.reset.cfg.intLevels.val ∧ State.reset.cfg.host = some .card ∧ State.reset.cfg.device = some .controller) ∧
    (let s := { State.reset with link := { State.reset.link with dataFromHost := true } };
      s.z47.linkState = .awaitingToReceive ∧ s.link.dataFromHost = true) ∧
    (inLink .awaitingTransmitComplete).z47.linkState = .awaitingTransmitComplete ∧
    (State.reset.z47.linkState ≠ .awaitingTransmitComplete ∧
      ¬(State.reset.z47.linkState = .awaitingToReceive ∧ State.reset.link.dataFromHost = true)) := by decide

theorem test_witness_StatusByteShowsTheLink :
    State.reset.cfg.owner 0x78#8 = some ⟨.hif, 0x78#8, 2⟩ ∧ State.reset.cfg.codes.z47PortBase = 0x78#8 := by decide

/-- An unchanged, a rising and a falling master-reset bit. -/
theorem test_witness_CommandByteWritesTheCard :
    (State.reset.cfg.owner 0x78#8 = some ⟨.hif, 0x78#8, 2⟩ ∧ State.reset.cfg.codes.z47PortBase = 0x78#8 ∧
      State.reset.cfg.z47IntLevel < State.reset.cfg.intLevels.val ∧ State.reset.cfg.host = some .card ∧ State.reset.cfg.device = some .controller) ∧
    (0x40#8).getLsbD 1 = State.reset.hif.mr ∧ ((0x43#8).getLsbD 1 = true ∧ State.reset.hif.mr = false) ∧
    ((0x00#8).getLsbD 1 = false ∧ { State.reset with hif := ⟨true, true, false, true⟩ }.hif.mr = true) := by decide

/-- For DataReadAcknowledges and DataWriteAcknowledges: the hypotheses that they share, and a link state for each clause of both. -/
theorem test_witness_DataReadAndWriteAcknowledge :
    (State.reset.cfg.owner 0x79#8 = some ⟨.hif, 0x78#8, 2⟩ ∧ (0x79#8).toNat = (0x78#8).toNat + 1 ∧
      State.reset.cfg.codes.z47DataPort = 0x79#8 ∧ State.reset.cfg.z47IntLevel < State.reset.cfg.intLevels.val ∧ State.reset.cfg.host = some .card ∧
      State.reset.cfg.device = some .controller) ∧
    (inLink .awaitingTransmitComplete).z47.linkState = .awaitingTransmitComplete ∧
    (let s := { State.reset with link := { State.reset.link with dataFromHost := true } };
      s.z47.linkState = .awaitingToReceive ∧ s.link.dataFromHost = true) ∧
    (State.reset.z47.linkState ≠ .awaitingTransmitComplete ∧
      ¬(State.reset.z47.linkState = .awaitingToReceive ∧ State.reset.link.dataFromHost = true)) ∧
    ((inLink .holdingDTR).z47.linkState ≠ .awaitingTransmitComplete ∧ (inLink .holdingDTR).z47.linkState ≠ .awaitingToReceive) := by
  decide

/-- One cycle short of the countdown, exactly its end, and a controller that is no clock user. -/
theorem test_witness_CountdownFreezesTheController :
    State.reset.cfg.clocked = true ∧ (119#16).toNat < { Z47.initial with countDown := 120 }.countDown ∧
    { Z47.initial with countDown := 120 }.countDown ≤ (120#16).toNat ∧ State.reset.z47.countDown ≤ (0#16).toNat ∧
    { State.reset.cfg with clocked := false }.clocked = false := by decide

theorem test_witness_LinkStepByLinkState :
    (State.reset.cfg.clocked = true ∧ State.reset.cfg.z47IntLevel < State.reset.cfg.intLevels.val ∧ State.reset.cfg.host = some .card) ∧
    ∀ l ∈ [LinkState.awaitingToReqReceive, .awaitingToReceive, .awaitingToTransmit, .awaitingTransmitComplete, .holdingDTR,
        .awaitingReadyState],
      (inLink l).z47.linkState = l ∧ (inLink l).z47.countDown = 0 ∧ (inLink l).RequestCurrent := by
  refine ⟨by decide, fun l _ => ⟨rfl, rfl, fun _ => rfl⟩⟩

/-- A listed edge, and a master reset from a state that no edge leads from to AwaitingToReceive. -/
theorem test_witness_OnlyListedLinkTransitions :
    (∃ t, exec (.tick 0#16) (inLink .holdingDTR) = .next t ∧ t.z47.linkState = .awaitingReadyState) ∧
    (∃ t, exec (.setMr true) (inLink .holdingDTR) = .next t ∧ t.z47 = Z47.initial) := ⟨⟨_, rfl, by decide⟩, ⟨_, rfl, by decide⟩⟩

/-- One operation for each clause, at the ports and bits where the clause ends. -/
theorem test_witness_ControllerActsOnlyWhenCalled :
    (∃ t, exec .reset (running .readSectorsBuffered 2) = .next t) ∧
    { State.reset.cfg with clocked := false }.clocked = false ∧
    (∀ k, State.reset.cfg.owner 0x78#8 = some k → k.dev ≠ .hif ∨ k.base = 0x78#8) ∧
    (∀ k, State.reset.cfg.owner 0xF2#8 = some k → k.dev ≠ .hif ∨ k.base = 0xF2#8) ∧
    (∀ k, State.reset.cfg.owner 0x78#8 = some k → k.dev ≠ .hif ∨ (k.base = 0x78#8 ∧ (0x40#8).getLsbD 1 = State.reset.hif.mr)) ∧
    ((0x40#8).getLsbD 1 = State.reset.hif.mr ∧ State.reset.cfg.wired = true) := by
  have ho : State.reset.cfg.owner 0x78#8 = some ⟨.hif, 0x78#8, 2⟩ := by decide
  have hg : State.reset.cfg.owner 0xF2#8 = some ⟨.gpp, 0xF2#8, 1⟩ := by decide
  refine ⟨⟨_, rfl⟩, rfl, ?_, ?_, ?_, by decide⟩
  · rintro k hk; rw [ho] at hk; cases hk; exact .inr rfl
  · rintro k hk; rw [hg] at hk; cases hk; exact .inl (by decide)
  · rintro k hk; rw [ho] at hk; cases hk; exact .inr ⟨rfl, by decide⟩

/-- An idle controller with no byte, and with the command bytes of RSB and WSB. -/
theorem test_witness_ReadyControllerStartsCommands :
    (let s := inLink .ready;
      s.cfg.clocked = true ∧ s.z47.countDown = 0 ∧ s.cfg.z47IntLevel < s.cfg.intLevels.val ∧ s.cfg.host = some .card ∧
        s.z47.linkState = .ready ∧ s.z47.ctrlState = .none ∧ s.z47.rxPending = false) ∧ (inLink .ready).RequestCurrent ∧
    (let s := { inLink .ready with z47 := { Z47.initial with linkState := .ready, rxPending := true, rxByte := 0x08#8 } };
      s.z47.rxPending = true ∧ s.z47.rxByte ≠ 0x07#8 ∧ s.z47.rxByte = s.cfg.codes.cmdWsb ∧ s.RequestCurrent) ∧
    (let s := { inLink .ready with z47 := { Z47.initial with linkState := .ready, rxPending := true, rxByte := 0x07#8 } };
      s.z47.rxPending = true ∧ s.z47.rxByte = 0x07#8) := by
  unfold State.RequestCurrent; decide

/-- For CommandWordsSendTheirByte and CommandWordsStartTheirCommand. -/
theorem test_witness_CommandWords :
    State.reset.cfg.ok = true ∧ State.reset.cfg.wired = true ∧ State.reset.cfg.z47IntLevel < State.reset.cfg.intLevels.val ∧
    State.reset.z47.linkState = .awaitingToReceive ∧ State.reset.z47.ctrlState = .none ∧ State.reset.z47.countDown = 0 ∧
    State.reset.cfg.codes.noCommand 0x00#8 = true ∧ State.reset.cfg.codes.noCommand 0x09#8 = true := by decide

/-- A read with its last byte left, and with none. -/
theorem test_witness_ReadDataPhaseStep :
    ∀ n ∈ [0, 1], let s := inData .readSectorsBuffered .ready (131 - n) n
      s.cfg.clocked = true ∧ s.z47.countDown = 0 ∧ s.cfg.z47IntLevel < s.cfg.intLevels.val ∧ s.cfg.host = some .card ∧ s.RequestCurrent ∧
        s.z47.linkState = .ready ∧ s.z47.ctrlState = .readSectorsBuffered ∧ 3 ≤ s.z47.statePosition ∧ s.z47.bytesToTransfer = n := by
  unfold State.RequestCurrent; decide

/-- A write with its last byte left, and with two. -/
theorem test_witness_WriteStoresTheNextImageByte :
    ∀ n ∈ [1, 2], let s := inData .writeSectorsBuffered .ready (131 - n) n
      s.cfg.clocked = true ∧ s.z47.countDown = 0 ∧ s.z47.linkState = .ready ∧ s.z47.ctrlState = .writeSectorsBuffered ∧
        3 ≤ s.z47.statePosition ∧ 1 ≤ s.z47.bytesToTransfer ∧ s.Canonical ∧ s.z47.drive.toNat < s.cfg.numDrives ∧
        s.z47.bytesToTransfer = n ∧ s.cfg.z47IntLevel < s.cfg.intLevels.val ∧ s.cfg.host = some .card ∧ s.RequestCurrent := by
  unfold State.Canonical State.RequestCurrent; decide

theorem test_witness_TrackByteIsTakenWhole :
    ∀ c ∈ [CtrlState.readSectorsBuffered, .writeSectorsBuffered], let s := running c 1
      s.cfg.clocked = true ∧ s.z47.countDown = 0 ∧ s.z47.linkState = .ready ∧
        (s.z47.ctrlState = .readSectorsBuffered ∨ s.z47.ctrlState = .writeSectorsBuffered) ∧ s.z47.statePosition = 1 := by
  decide

/-- The controller that R342 checks, for a track and an SDS byte. -/
def setupOf (track val : Byte) (count : Nat) : Z47 :=
  { Z47.initial with
    track := track, sectorCount := count, side := val.getLsbD 7, drive := val.extractLsb' 5 2, sector := val.extractLsb' 0 5 }

/-- One set of operands for each check of R342, at the boundary of the check, and one that passes all (V45-2 to V45-8). -/
theorem test_witness_ParametersAreCheckedInOrder :
    State.reset.cfg.numDrives ≤ (setupOf 0#8 0x41#8 1).drive.toNat ∧
    { State.reset with cfg := { State.reset.cfg with drives := [⟨true, false⟩, ⟨false, false⟩] } }.cfg.drivePresent
      (setupOf 0#8 0x21#8 1).drive = false ∧
    (¬(State.reset.cfg.numDrives ≤ (setupOf 0#8 0x21#8 1).drive.toNat ∨ State.reset.cfg.drivePresent (setupOf 0#8 0x21#8 1).drive = false)) ∧
    (setupOf 0#8 0x00#8 1).sector.toNat < 1 ∧ 26 < (setupOf 0#8 0x1B#8 1).sector.toNat ∧ 77 ≤ (setupOf 77#8 0x01#8 1).track.toNat ∧
    (let z := setupOf 76#8 0x1A#8 2;
      ¬(77 ≤ z.track.toNat ∨ z.sector.toNat < 1 ∨ 26 < z.sector.toNat) ∧
        256256 < z.track.toNat * 3328 + (z.sector.toNat - 1) * 128 + z.sectorCount * 128) ∧
    (let z := setupOf 76#8 0xBA#8 1;
      ¬(77 ≤ z.track.toNat ∨ z.sector.toNat < 1 ∨ 26 < z.sector.toNat) ∧
        ¬256256 < z.track.toNat * 3328 + (z.sector.toNat - 1) * 128 + z.sectorCount * 128 ∧
        ¬(Direction.write = .write ∧ State.reset.cfg.driveProtected z.drive = true) ∧ z.sectorCount = 1) ∧
    { State.reset with cfg := { State.reset.cfg with drives := [⟨true, true⟩] } }.cfg.driveProtected
      (setupOf 0#8 0x01#8 1).drive = true := by decide

/-- A command at position 2 that has received the SDS byte `val` for track 0. -/
def atSds (c : CtrlState) (val : Byte) : State :=
  { running c 2 with z47 := { (running c 2).z47 with rxByte := val, rxPending := true } }

/-- For the second part: a read and a write whose check passes, and one of an absent drive that fails. -/
theorem test_witness_ParametersAreChecked_at_position_3 :
    (∀ c ∈ [CtrlState.readSectorsBuffered, .writeSectorsBuffered], ∀ v ∈ [0x01#8, 0x41#8], let s := atSds c v
      s.cfg.clocked = true ∧ s.z47.countDown = 0 ∧ s.cfg.z47IntLevel < s.cfg.intLevels.val ∧ s.cfg.host = some .card ∧
        s.RequestCurrent ∧ s.z47.linkState = .ready ∧ s.z47.statePosition = 2 ∧ s.z47.ctrlState = c) ∧
    (∀ d ∈ [Direction.read, .write], let s := atSds .readSectorsBuffered 0x01#8
      (checkParams s.z47.rxByte d { s with z47 := { s.z47 with rxPending := false, statePosition := 3 } }).2 = true) ∧
    (∀ d ∈ [Direction.read, .write], let s := atSds .readSectorsBuffered 0x41#8
      (checkParams s.z47.rxByte d { s with z47 := { s.z47 with rxPending := false, statePosition := 3 } }).2 = false) := by
  unfold State.RequestCurrent; decide

theorem test_witness_StatusReportDrainsTheLatches :
    let s := { inLink .ready with z47 := { Z47.initial with linkState := .ready, rxPending := true, rxByte := 0x01#8 } }
    s.cfg.ok = true ∧ s.cfg.wired = true ∧ s.z47.linkState = .ready ∧ s.z47.ctrlState = .none ∧ s.z47.countDown = 0 ∧
      s.z47.rxPending = true ∧ s.z47.rxByte = s.cfg.codes.cmdRcs := by decide

theorem test_witness_LatchesAccumulate :
    ∃ t, exec (.tick 0#16) (running .readSectorsBuffered 2) = .next t ∧
      ((running .readSectorsBuffered 2).z47.ctrlState ≠ .none → 1 ≤ (running .readSectorsBuffered 2).z47.statePosition) ∧
      t.z47.err.noRecordFound = true := ⟨_, rfl, by decide, by decide⟩

/-- A whole sector to read, and one byte. -/
theorem test_witness_ReadStreamsTheImageInOrder :
    ∀ n ∈ [1, 128], let s := inData .readSectorsBuffered .ready 3 128
      s.cfg.ok = true ∧ s.cfg.wired = true ∧ s.z47.countDown = 0 ∧ s.z47.linkState = .ready ∧
        s.z47.ctrlState = .readSectorsBuffered ∧ 3 ≤ s.z47.statePosition ∧ n ≤ s.z47.bytesToTransfer := by decide

theorem test_witness_WriteStoresTheBytesInOrder :
    let s := inData .writeSectorsBuffered .awaitingToReqReceive 3 128
    s.cfg.ok = true ∧ s.cfg.wired = true ∧ s.Canonical ∧ s.z47.drive.toNat < s.cfg.numDrives ∧ s.z47.countDown = 0 ∧
      s.z47.linkState = .awaitingToReqReceive ∧ s.z47.ctrlState = .writeSectorsBuffered ∧ 3 ≤ s.z47.statePosition ∧
      (List.replicate 128 0xE5#8).length ≤ s.z47.bytesToTransfer := by
  rw [List.length_replicate]; unfold State.Canonical; decide

theorem test_witness_ResetReachesWhatTheSpecLists :
    ∀ v ∈ [Variant.h88, .h89, .mms77318], (refCfg v).ok = true ∧ (refCfg v).wired = true := by decide

theorem test_witness_OneLogEntryPerOperation :
    ∃ t, State.reset.cfg.ok = true ∧ exec (.z47Dout 1#8) { State.reset with link := { State.reset.link with dataFromDrive := true } } =
      .next t ∧ t.log.length = 1 := ⟨_, by decide, rfl, by decide⟩

/-- A build with the host interface's ports claimed. -/
def portsBuilt : Build := ⟨State.reset.cfg, [], [[], []], []⟩

/-- The ports from 0xF3 on are free. -/
theorem test_ports_free (q : Port) (h : (0xF3#8).toNat ≤ q.toNat) : portsBuilt.cfg.owner q = none := by
  have h' : 243 ≤ q.toNat := h
  simp [Config.owner, portsBuilt, State.reset, Config.reference, Claim.covers]
  omega

/-- An empty claim, one past port 255, one in conflict (S5), and a legal one that ends at port 255. -/
theorem test_witness_AddDeviceIsAllOrNothing :
    (∀ k ∈ portsBuilt.cfg.claims, 0 < k.count ∧ k.base.toNat + k.count ≤ 256) ∧ 256 < (0xFF#8).toNat + 2 ∧
    ((0x79#8).toNat ≤ (0x79#8).toNat ∧ (0x79#8).toNat < (0x79#8).toNat + 4 ∧ portsBuilt.cfg.owner 0x79#8 ≠ none) ∧
    ((0xF3#8).toNat + 13 ≤ 256 ∧ ∀ q : Port, (0xF3#8).toNat ≤ q.toNat → q.toNat < (0xF3#8).toNat + 13 → portsBuilt.cfg.owner q = none) :=
  ⟨by decide, by decide, by decide, by decide, fun q h _ => test_ports_free q h⟩

/-- The last bank and the first past it, and for a ROM image one that ends with its page and one that does not fit, the RAM page W0's
shadow, and the overlay W0. -/
theorem test_witness_BuildCallsDoWhatTheySay :
    portsBuilt.cfg.nBanks ≤ 2 ∧ 1 < portsBuilt.cfg.nBanks ∧ 4096 + (List.replicate 4096 0x5A#8).length ≤ 8192 ∧
    8192 < 4097 + (List.replicate 4096 0x5A#8).length ∧ (List.replicate 2048 0x5A#8).length = 2048 ∧
    portsBuilt.cfg.kind 2 = .ram ∧ portsBuilt.cfg.kind 0 = .nil ∧ portsBuilt.cfg.kind 1 = .wur 0xCF#8 0xEF#8 2 ∧
    portsBuilt.mem.wf = true := by
  simp only [List.length_replicate]; decide

/-- R90: an image of another size is a load failure; R170, R171: a page and a short layout in their slots. -/
theorem test_build_calls :
    (portsBuilt.loadRom 1 0 [0x5A#8]).2 = false ∧
    (portsBuilt.addLayout 1 [3]).cfg.layoutPage 1 0#3 = 3 ∧ (portsBuilt.addLayout 1 [3]).cfg.layoutPage 1 1#3 = 0 ∧
    ((portsBuilt.addLayout 1 [3]).addPage 1 9).cfg.layoutPage 1 7#3 = 9 ∧ (portsBuilt.addPage 2 9).cfg.layouts = portsBuilt.cfg.layouts := by
  decide
end

/-! The block's scope (00_scope.md): the bit gathering of R11, the step of R6 and R445, the refusals of R9, the ports of devices outside
the block, the state after reset and the build-time calls. -/

namespace Sys2Proof.Machine

/-! ### Bit gathering (R11) -/

/-- The lowest bit of a number that begins with a bit. -/
theorem testBit_toNat_add_two_mul_zero (b : Bool) (n : Nat) : (b.toNat + 2 * n).testBit 0 = b := by
  rw [Nat.add_comm, ← Nat.bit_val, Nat.testBit_bit_zero]

/-- The bits above the lowest one of a number that begins with a bit. -/
theorem testBit_toNat_add_two_mul_succ (b : Bool) (n k : Nat) : (b.toNat + 2 * n).testBit (k + 1) = n.testBit k := by
  rw [Nat.add_comm, ← Nat.bit_val, Nat.testBit_bit_succ]

theorem gatherBits_cons_live {v m : Byte} {i : Nat} (l : List Nat) (h : m.getLsbD i = true) :
    gatherBits v m (i :: l) = (v.getLsbD i).toNat + 2 * gatherBits v m l := if_pos h

theorem gatherBits_cons_dead {v m : Byte} {i : Nat} (l : List Nat) (h : m.getLsbD i = false) :
    gatherBits v m (i :: l) = gatherBits v m l := if_neg (by simp [h])

/-- Among ascending positions, the bit at a live one lands above as many bits as there are live positions below it. -/
theorem testBit_gatherBits (v m : Byte) {l : List Nat} (hl : l.Pairwise (· < ·)) {i : Nat} (hi : i ∈ l)
    (hlive : m.getLsbD i = true) :
    (gatherBits v m l).testBit (l.filter fun j => m.getLsbD j && decide (j < i)).length = v.getLsbD i := by
  induction l with
  | nil => cases hi
  | cons j l ih =>
    obtain ⟨hj, hl⟩ := List.pairwise_cons.1 hl
    rcases List.mem_cons.1 hi with rfl | hi
    · have hnone : (l.filter fun k => m.getLsbD k && decide (k < i)) = [] :=
        List.filter_eq_nil_iff.2 fun k hk => by simp [Nat.le_of_lt (hj k hk)]
      rw [gatherBits_cons_live l hlive, List.filter_cons_of_neg (by simp), hnone]
      exact testBit_toNat_add_two_mul_zero _ _
    · cases hm : m.getLsbD j with
      | true => simp [gatherBits_cons_live l hm, hm, hj i hi, testBit_toNat_add_two_mul_succ, ih hl hi]
      | false => simp [gatherBits_cons_dead l hm, hm, ih hl hi]

/-- The live bits below a place, counted among the eight positions. -/
theorem popcount_below (m : Byte) (i : Nat) :
    popcount (m &&& BitVec.ofNat 8 (2 ^ i - 1)) =
      ([0, 1, 2, 3, 4, 5, 6, 7].filter fun j => m.getLsbD j && decide (j < i)).length := by
  refine congrArg List.length (List.filter_congr fun j hj => ?_)
  have hj8 : j < 8 := by
    simp only [List.mem_cons, List.not_mem_nil, or_false] at hj
    omega
  rw [BitVec.getLsbD_and, BitVec.getLsbD_ofNat, Nat.testBit_two_pow_sub_one, decide_eq_true hj8, Bool.true_and]

/-- Settles O20: the bound is `pext_lt`, the places are those of `testBit_gatherBits`. -/
theorem pextPacksLiveBitsInOrder : Obligations.PextPacksLiveBitsInOrder := by
  intro v m
  refine ⟨pext_lt v m, fun i hi hlive => ?_⟩
  have hmem : i ∈ [0, 1, 2, 3, 4, 5, 6, 7] := by
    simp only [List.mem_cons, List.not_mem_nil, or_false]
    omega
  rw [popcount_below]
  exact testBit_gatherBits v m (by decide) hmem hlive

/-! ### The step (R6, R445) -/

theorem fetch_of_ops_nil {s : State} (h : s.ops = []) : fetch s = none := by simp [fetch, h]

theorem fetch_of_ops_cons {s : State} {w : OpWord} {rest : List OpWord} (h : s.ops = w :: rest) :
    fetch s = some (w, s.setOps rest) := by simp [fetch, h]

theorem fetch_issue (w : OpWord) (s : State) : fetch (issue w s) = some (w, s) := rfl

theorem runWord_of_decode {s : State} {w : OpWord} {i : Instr} (h : decode s.cfg.codes w = .ok i) : runWord w s = exec i s := by
  simp [runWord, h]

/-- A step of a legal configuration runs the word it fetches. -/
theorem step_of_fetch_some {s t : State} {w : OpWord} (hok : s.cfg.ok = true) (h : fetch s = some (w, t)) :
    step s = runWord w t := by simp [step, hok, h]

/-- A step of a legal configuration with nothing to fetch is idle. -/
theorem step_of_fetch_none {s : State} (hok : s.cfg.ok = true) (h : fetch s = none) : step s = .next s := by
  simp [step, hok, h]

/-- A step of an illegal configuration is refused. -/
theorem step_of_not_ok {s : State} (h : s.cfg.ok = false) : step s = .refused .badConfiguration := by simp [step, h]

/-- Settles O7, one clause for each thing a fetch can find. -/
theorem stepRunsDecodedOperation : Obligations.StepRunsDecodedOperation := by
  refine ⟨fun s w rest i hok hops hdec => ?_, fun s nbits w i hok hdec => ?_, fun s hok hops => ?_⟩
  · calc step s = runWord w (s.setOps rest) := step_of_fetch_some hok (fetch_of_ops_cons hops)
      _ = exec i (s.setOps rest) := runWord_of_decode hdec
  · calc step (s.withFetchWord nbits w) = runWord (tableWord nbits w) s := step_of_fetch_some hok (fetch_issue _ s)
      _ = exec i s := runWord_of_decode hdec
  · exact step_of_fetch_none hok (fetch_of_ops_nil hops)

/-! ### The constraints of R9 -/

/-- R9 (a) on the H89. -/
theorem masksFit_h89 {c : Config} (hv : c.variant = .h89) : c.masksFit = true ↔ 2 ^ popcount c.h89Org0Mask ≤ c.nBanks := by
  simp [Config.masksFit, Config.bankMasks, hv]

/-- R9 (a) on the MMS77318. -/
theorem masksFit_mms77318 {c : Config} (hv : c.variant = .mms77318) :
    c.masksFit = true ↔ 2 ^ popcount c.h89Org0Mask ≤ c.nBanks ∧ 2 ^ popcount c.mmsBankMask ≤ c.nBanks := by
  simp [Config.masksFit, Config.bankMasks, Config.mmsPreMask, hv]

/-- R9 (b). -/
theorem bankMaskOk_iff {c : Config} :
    c.bankMaskOk = true ↔ popcount c.mmsBankMask = 3 ∧ c.mmsBankMask &&& c.mmsUnlockMask = 0#8 := by simp [Config.bankMaskOk]

/-- R9 (c). -/
theorem shadowsOk_iff {c : Config} :
    c.shadowsOk = true ↔ ∀ p ∈ c.pages, ∀ ro ins shadow, p.kind = .wur ro ins shadow → c.kind shadow = .ram := by
  have hpage (p : Page) : c.shadowOk p = true ↔ ∀ ro ins shadow, p.kind = .wur ro ins shadow → c.kind shadow = .ram := by
    unfold Config.shadowOk
    cases p.kind <;> simp
  simp only [Config.shadowsOk, List.all_eq_true, hpage]

/-- R9 (d). -/
theorem portsOk_iff {c : Codes} :
    c.portsOk = true ↔ c.z47PortBase ≠ 0xFF#8 ∧ c.gppPort ≠ c.z47PortBase ∧ c.gppPort ≠ c.z47PortBase + 1#8 := by
  simp [Codes.portsOk, Codes.z47DataPort, and_assoc]

/-- R9 (f). -/
theorem commandsOk_iff {c : Codes} :
    c.commandsOk = true ↔ c.cmdWsb ≠ 0x07#8 ∧ c.cmdRcs ≠ 0x07#8 ∧ c.cmdWsb ≠ c.cmdRcs := by simp [Codes.commandsOk, and_assoc]

/-- R9 (e). -/
theorem levelOk_iff {c : Config} : c.levelOk = true ↔ c.z47IntLevel < c.intLevels.val := by simp [Config.levelOk]

/-- A legal configuration meets the six constraints of R9. -/
theorem config_ok_iff {c : Config} :
    c.ok = true ↔ c.masksFit = true ∧ c.bankMaskOk = true ∧ c.shadowsOk = true ∧ c.codes.portsOk = true ∧
      c.codes.commandsOk = true ∧ c.levelOk = true := by simp [Config.ok, Codes.ok, and_assoc]

/-- Settles O8: a legal configuration contradicts each of the clauses, by the constraint the clause breaks. -/
theorem illegalConfigurationRefused : Obligations.IllegalConfigurationRefused := by
  intro s hbroken
  refine step_of_not_ok (Bool.eq_false_iff.2 fun hok => ?_)
  obtain ⟨hmasks, hbank, hshadows, hports, hcommands, hlevel⟩ := config_ok_iff.1 hok
  obtain ⟨hthree, hlive⟩ := bankMaskOk_iff.1 hbank
  obtain ⟨hbase, hgpp, hdata⟩ := portsOk_iff.1 hports
  obtain ⟨hwsb, hrcs, hdistinct⟩ := commandsOk_iff.1 hcommands
  rcases hbroken with ⟨hv, h⟩ | ⟨hv, h⟩ | h | h | ⟨p, hp, ro, ins, shadow, hkind, h⟩ | h | h | h | h | h | h | h
  · exact Nat.not_le.2 h ((masksFit_h89 hv).1 hmasks)
  · obtain ⟨hpre, hmask⟩ := (masksFit_mms77318 hv).1 hmasks
    exact h.elim hpre.not_gt hmask.not_gt
  · exact h hthree
  · exact h hlive
  · exact h (shadowsOk_iff.1 hshadows p hp ro ins shadow hkind)
  · exact hbase h
  · exact hgpp h
  · exact hdata h
  · exact Nat.not_le.2 (levelOk_iff.1 hlevel) h
  · exact hwsb h
  · exact hrcs h
  · exact hdistinct h

/-! ### Devices outside the block (R163, R164) -/

/-- IN at a claimed port is the owner's read handler at the port's offset. -/
theorem ioIn_of_owner {s : State} {p : Port} {k : Claim} (h : s.cfg.owner p = some k) :
    ioIn p s = deviceIn k.dev (p.toNat - k.base.toNat) s := by simp [ioIn, h]

/-- OUT at a claimed port is the owner's write handler at the port's offset. -/
theorem ioOut_of_owner {s : State} {p : Port} {k : Claim} (v : Byte) (h : s.cfg.owner p = some k) :
    ioOut p v s = deviceOut k.dev (p.toNat - k.base.toNat) v s := by simp [ioOut, h]

@[simp] theorem deviceIn_external (n off : Nat) (s : State) : deviceIn (.external n) off s = externalRead s := rfl

@[simp] theorem deviceOut_external (n off : Nat) (v : Byte) (s : State) : deviceOut (.external n) off v s = s := rfl

/-- Settles O18: the byte is the next free one, and the owner's handlers leave the rest alone. -/
theorem externalPortsLeaveTheBlock : Obligations.ExternalPortsLeaveTheBlock := by
  intro s p v n k howner hdev
  refine ⟨⟨Config.externalByte s.draws, ?_⟩, ?_⟩
  · calc exec (.inp p) s = answer (ioIn p s) := rfl
      _ = answer (externalRead s) := by rw [ioIn_of_owner howner, hdev, deviceIn_external]
      _ = .next { s with returned := some (Config.externalByte s.draws), draws := s.draws + 1 } := rfl
  · calc exec (.out p v) s = done (ioOut p v s) := rfl
      _ = done s := by rw [ioOut_of_owner v howner, hdev, deviceOut_external]

/-! ### The state after reset -/

/-- The controller as power-on leaves it runs no command and no countdown, so its sequencer is legal for any number of drives. -/
theorem z47_initial_legal (n : Nat) : Z47.initial.Legal n where
  countDown_le := Nat.zero_le _
  settling h := absurd h (by decide)
  idle_position _ := rfl
  invalid_never_held := by decide
  pending_only_ready h := absurd h (by decide)
  sectorCount_pos := Nat.le_refl 1
  offset_le := Nat.zero_le _
  status_position h := absurd h (by decide)
  running_position h := absurd rfl h
  reading h := absurd h (by decide)
  writing h := absurd h (by decide)

/-- Settles O57: each part is a closed fact about the reference H89, but for the sequencer, which is `z47_initial_legal`. -/
theorem resetStateIsLegal : Obligations.ResetStateIsLegal := by
  have hcanonical : State.reset.Canonical := ⟨Memory.wf_nil, by decide, rfl⟩
  have hdecoder : State.reset.DecoderLegal := ⟨by decide, rfl, rfl⟩
  have hflags : State.reset.FlagsExclusive := fun h => absurd h (by decide)
  have hrequest : State.reset.RequestCurrent := fun _ => rfl
  have hsequencer : State.reset.SequencerLegal := z47_initial_legal _
  exact ⟨by decide, by decide, hcanonical, hdecoder, hflags, hrequest, hsequencer⟩

/-! ### Layouts and pages at build time (R170, R171) -/

/-- A slot of `LAY`, read from the whole of it. -/
theorem banks_slot {c : Config} {j : Nat} (s : BitVec 3) (hj : j < c.nBanks) :
    (c.banks.getD j []).getD s.toNat nilPage = c.layoutPage j s := by
  rw [Config.banks_getD c j hj, eightSlots_getD, Config.layoutPage]

/-- A layout of the bank table after one bank's layout is set. -/
theorem banks_set_slot {c : Config} {i j : Nat} (l : List Nat) (s : BitVec 3) (hj : j < c.nBanks) :
    ((c.banks.set i (eightSlots l)).getD j []).getD s.toNat nilPage =
      if j = i then l.getD s.toNat nilPage else c.layoutPage j s := by
  have hset : (c.banks.set i (eightSlots l)).getD j [] = if j = i then eightSlots l else c.banks.getD j [] := by
    by_cases h : j = i
    · subst h
      simp [List.getD_eq_getElem?_getD, hj]
    · simp [List.getD_eq_getElem?_getD, List.getElem?_set_ne (Ne.symm h), h]
  rw [hset]
  split
  · exact eightSlots_getD l s
  · exact banks_slot s hj

/-- A slot of eight after one of them is set. -/
theorem set_slot {l : List Nat} (hl : l.length = 8) (s t : BitVec 3) (p : Nat) :
    (l.set t.toNat p).getD s.toNat nilPage = if s = t then p else l.getD s.toNat nilPage := by
  have hs : s.toNat < l.length := by omega
  by_cases h : s = t
  · subst h
    simp [List.getD_eq_getElem?_getD, hs]
  · have hne : t.toNat ≠ s.toNat := fun e => h (BitVec.eq_of_toNat_eq e.symm)
    simp [List.getD_eq_getElem?_getD, List.getElem?_set_ne hne, h]

/-- A layout of the bank table after one slot of one bank is set. -/
theorem banks_modify_slot {c : Config} {k j : Nat} (s t : BitVec 3) (p : Nat) (hj : j < c.nBanks) :
    ((c.banks.modify k fun l => l.set t.toNat p).getD j []).getD s.toNat nilPage =
      if j = k ∧ s = t then p else c.layoutPage j s := by
  have hmodify : (c.banks.modify k fun l => l.set t.toNat p).getD j [] =
      if j = k then (c.banks.getD j []).set t.toNat p else c.banks.getD j [] := by
    by_cases h : j = k
    · subst h
      simp [List.getD_eq_getElem?_getD, hj]
    · simp [List.getD_eq_getElem?_getD, Ne.symm h, h]
  have hlength : (c.banks.getD j []).length = 8 := by rw [Config.banks_getD c j hj, eightSlots_length]
  by_cases h : j = k
  · rw [hmodify, if_pos h, set_slot hlength, banks_slot s hj]
    simp [h]
  · rw [hmodify, if_neg h, banks_slot s hj, if_neg fun e => h e.1]

/-- The slot that a page's base names is the page's own (R30, R170). -/
theorem page_base_slot (p : Page) : p.base.extractLsb' 13 3 = p.slot := extract_append_high p.slot 0#13

theorem addLayout_of_range {b : Build} {i : Nat} (l : List Nat) (h : i < b.cfg.nBanks) :
    b.addLayout i l = { b with cfg := { b.cfg with layouts := b.cfg.banks.set i (eightSlots l) } } := if_neg (Nat.not_le.2 h)

theorem addPage_of_range {b : Build} {k : Nat} (p : Nat) (h : k < b.cfg.nBanks) :
    b.addPage k p = { b with cfg := { b.cfg with
      layouts := b.cfg.banks.modify k fun l => l.set (b.cfg.page p).slot.toNat p } } := if_neg (Nat.not_le.2 h)

/-- ADD_LAYOUT fills the slots of its bank alone. -/
theorem addLayout_layoutPage {b : Build} {i j : Nat} (l : List Nat) (s : BitVec 3) (hi : i < b.cfg.nBanks) (hj : j < b.cfg.nBanks) :
    (b.addLayout i l).cfg.layoutPage j s = if j = i then l.getD s.toNat nilPage else b.cfg.layoutPage j s := by
  rw [addLayout_of_range l hi]
  exact banks_set_slot l s hj

/-- ADD_PAGE fills the one slot of its bank that the page's base names. -/
theorem addPage_layoutPage {b : Build} {k j : Nat} (p : Nat) (s : BitVec 3) (hk : k < b.cfg.nBanks) (hj : j < b.cfg.nBanks) :
    (b.addPage k p).cfg.layoutPage j s =
      if j = k ∧ s = (b.cfg.page p).base.extractLsb' 13 3 then p else b.cfg.layoutPage j s := by
  rw [addPage_of_range p hk, page_base_slot]
  exact banks_modify_slot s _ p hj

/-! ### ROM images (R90) -/

theorem takesRom_iff {b : Build} {page : Nat} :
    b.takesRom page = true ↔ b.cfg.kind page = .rom ∨ ∃ ro ins shadow, b.cfg.kind page = .wur ro ins shadow := by
  unfold Build.takesRom
  cases b.cfg.kind page <;> simp

/-- An image that breaks one of the conditions of a load is a load failure. -/
theorem loadRom_fails {b : Build} {page off : Nat} {image : List Byte}
    (h : ¬(image.length ∈ romImageSizes ∧ b.takesRom page = true ∧ off + image.length ≤ pageSize)) :
    b.loadRom page off image = (b, false) := if_neg h

/-- An image that meets them is loaded at its place. -/
theorem loadRom_loads {b : Build} {page off : Nat} {image : List Byte} (hsize : image.length ∈ romImageSizes)
    (hpage : b.takesRom page = true) (hfit : off + image.length ≤ pageSize) :
    b.loadRom page off image = ({ b with mem := b.mem.load (page * pageSize + off) image }, true) :=
  if_pos ⟨hsize, hpage, hfit⟩

/-- The places of a run of bytes within one page, as page bytes. -/
theorem pageKey_in_range_iff {page off n : Nat} (hfit : off + n ≤ pageSize) (p : Nat) (o : PageOffset) :
    page * pageSize + off ≤ pageKey p o ∧ pageKey p o < page * pageSize + off + n ↔
      p = page ∧ off ≤ o.toNat ∧ o.toNat < off + n := by
  have ho := o.isLt
  simp only [pageKey, pageSize] at hfit ⊢
  constructor
  · rintro ⟨hlow, hhigh⟩
    obtain rfl : p = page := by omega
    exact ⟨rfl, by omega, by omega⟩
  · rintro ⟨rfl, hlow, hhigh⟩
    exact ⟨by omega, by omega⟩

/-- A page byte after a run of bytes within one page is loaded. -/
theorem read_load_pageKey {m : Memory} {page off : Nat} {image : List Byte} (hfit : off + image.length ≤ pageSize)
    (hm : m.wf = true) (p : Nat) (o : PageOffset) :
    (m.load (page * pageSize + off) image).read (pageKey p o) =
      if p = page ∧ off ≤ o.toNat ∧ o.toNat < off + image.length then image.getD (o.toNat - off) 0#8
      else m.read (pageKey p o) := by
  rw [Memory.read_load _ _ _ hm, if_congr (pageKey_in_range_iff hfit p o) rfl rfl]
  refine if_ctx_congr Iff.rfl (fun ⟨hp, hlow, _⟩ => ?_) fun _ => rfl
  have hplace : pageKey p o - (page * pageSize + off) = o.toNat - off := by
    simp only [hp, pageKey]
    omega
  rw [hplace]

/-! ### Registrations (R272, R273) -/

theorem registerHost_cfg (b : Build) (h : HostPeer) : (b.registerHost h).cfg = { b.cfg with host := some h } := by
  unfold Build.registerHost
  split <;> rfl

theorem registerHost_log (b : Build) (h : HostPeer) :
    (b.registerHost h).log = if b.cfg.host = none then b.log else b.log ++ [.doubleRegistration .host] := by
  unfold Build.registerHost
  split <;> rfl

theorem registerDevice_cfg (b : Build) (d : DevicePeer) : (b.registerDevice d).cfg = { b.cfg with device := some d } := by
  unfold Build.registerDevice
  split <;> rfl

theorem registerDevice_log (b : Build) (d : DevicePeer) :
    (b.registerDevice d).log = if b.cfg.device = none then b.log else b.log ++ [.doubleRegistration .device] := by
  unfold Build.registerDevice
  split <;> rfl

/-- Settles O60: one part for each build-time call. -/
theorem buildCallsDoWhatTheySay : Obligations.BuildCallsDoWhatTheySay := by
  refine ⟨fun b i l h => if_pos h, fun b i j l s hi hj => ⟨addLayout_layoutPage l s hi hj, ?_⟩,
    fun b k p j s hk hj => ⟨addPage_layoutPage p s hk hj, ?_⟩, fun b k p h => if_pos h,
    fun b page off image => ⟨fun h2 h4 => ?_, fun h => ?_, fun h => ?_, fun hsize hfit hpage hm => ?_⟩,
    fun b h => ⟨registerHost_cfg b h, registerHost_log b h⟩, fun b d => ⟨registerDevice_cfg b d, registerDevice_log b d⟩,
    fun s c => rfl⟩
  · rw [addLayout_of_range l hi]
  · rw [addPage_of_range p hk]
  · refine loadRom_fails fun ⟨hsize, _, _⟩ => ?_
    simp [h2, h4] at hsize
  · refine loadRom_fails fun ⟨_, htakes, _⟩ => ?_
    rcases takesRom_iff.1 htakes with hk | ⟨ro, ins, shadow, hk⟩ <;> simp [hk] at h
  · exact loadRom_fails fun ⟨_, _, hfit⟩ => Nat.not_le.2 h hfit
  · exact ⟨_, loadRom_loads (by simpa using hsize) (takesRom_iff.2 hpage) hfit, Memory.load_wf _ _ hm,
      read_load_pageKey hfit hm⟩

end Sys2Proof.Machine

/-! The state of the block (10_state.md): what one operation can do, and what every operation keeps. -/

namespace Sys2Proof.Machine

/-! ### What one operation can do (R120, R400) -/

/-- What an operation leaves of the state `s`, but for the byte it returns: one constructor for each shared operation that the
thirty operations run. A port view, an IN or an OUT is what its port's owner does, and a command word is the card's data port. -/
inductive Effect (s : State) : State → Prop where
  | idle : Effect s s
  | pageWrite (p : Nat) (off : PageOffset) (v : Byte) : Effect s (pageWrite p off v s)
  | externalRead : Effect s (externalRead s).2
  | gppOut (v : Byte) : Effect s (gppOut v s)
  | cardCommand (v : Byte) : Effect s (cardCommand v s)
  | cardDataIn : Effect s (cardDataIn s).2
  | cardDataOut (v : Byte) : Effect s (cardDataOut v s)
  | notification (c : Nat) : Effect s (notification c s)
  | reset : Effect s (intcReset (ioReset (decoderReset s)))
  | raiseInt (l : Nat) : Effect s (raiseInt l s)
  | lowerInt (l : Nat) : Effect s (lowerInt l s)
  | raiseNmi : Effect s (raiseNmi s)
  | sendHost (v : Byte) : Effect s (sendHost v s)
  | sendDrive (v : Byte) : Effect s (sendDrive v s)
  | readByHost : Effect s (readByHost s).2
  | readByDrive : Effect s (readByDrive s).2
  | setBusy (b : Bool) : Effect s (setBusy b s)
  | setDtr (b : Bool) : Effect s (setDtr b s)
  | setDdout (b : Bool) : Effect s (setDdout b s)
  | setError (b : Bool) : Effect s (setError b s)
  | setMr (b : Bool) : Effect s (setMr b s)
  | setDtak (b : Bool) : Effect s (setDtak b s)

/-- An IN is what the owner's read handler does. -/
theorem ioIn_effect (p : Port) (s : State) : Effect s (ioIn p s).2 := by
  unfold ioIn
  split
  · exact .idle
  · unfold deviceIn
    split
    · exact .idle
    · exact .idle
    · exact .cardDataIn
    · exact .externalRead
    · exact .externalRead
    · exact .externalRead

/-- An OUT is what the owner's write handler does. -/
theorem ioOut_effect (p : Port) (v : Byte) (s : State) : Effect s (ioOut p v s) := by
  unfold ioOut
  split
  · exact .idle
  · unfold deviceOut
    split
    · exact .gppOut v
    · exact .cardCommand v
    · exact .cardDataOut v
    · exact .idle
    · exact .idle
    · exact .idle

/-- A clock notification reaches the controller where it is a clock user. -/
theorem tick_effect (c : Nat) (s : State) : Effect s (if s.cfg.clocked then notification c s else s) := by
  split
  · exact .notification c
  · exact .idle

/-- An outcome without a byte is the effect with no byte noted. -/
theorem done_next {s t u : State} (he : Effect s u) (h : done u = .next t) : ∃ u r, Effect s u ∧ t = u.setReturned r :=
  ⟨u, none, he, (Host.Outcome.next.inj h).symm⟩

/-- An outcome with a byte is the effect with the byte noted. -/
theorem answer_next {s t : State} {r : Byte × State} (he : Effect s r.2) (h : answer r = .next t) :
    ∃ u r, Effect s u ∧ t = u.setReturned r := ⟨r.2, some r.1, he, (Host.Outcome.next.inj h).symm⟩

/-- Every operation leaves one of the effects, with the byte it returns noted. -/
theorem exec_effect {i : Instr} {s t : State} (h : exec i s = .next t) : ∃ u r, Effect s u ∧ t = u.setReturned r := by
  cases i with
  | mrd a => exact answer_next (r := (pageRead s (resolve s a) (offsetOf a), s)) .idle h
  | mwr a v => exact done_next (.pageWrite _ _ _) h
  | inta a => exact answer_next (r := (intaVector s, s)) .idle h
  | inp p => exact answer_next (ioIn_effect p s) h
  | out p v => exact done_next (ioOut_effect p v s) h
  | tick c => exact done_next (tick_effect c.toNat s) h
  | reset => exact done_next .reset h
  | gppWr v => exact done_next (ioOut_effect _ v s) h
  | gppRd => exact answer_next (ioIn_effect _ s) h
  | z47Stat => exact answer_next (ioIn_effect _ s) h
  | z47Cmd v => exact done_next (ioOut_effect _ v s) h
  | z47Din => exact answer_next (ioIn_effect _ s) h
  | z47Dout v => exact done_next (ioOut_effect _ v s) h
  | sendHost v => exact done_next (.sendHost v) h
  | sendDrive v => exact done_next (.sendDrive v) h
  | readByHost => exact answer_next .readByHost h
  | readByDrive => exact answer_next .readByDrive h
  | setBusy b => exact done_next (.setBusy b) h
  | setDtr b => exact done_next (.setDtr b) h
  | setDdout b => exact done_next (.setDdout b) h
  | setError b => exact done_next (.setError b) h
  | setMr b => exact done_next (.setMr b) h
  | setDtak b => exact done_next (.setDtak b) h
  | raiseInt l => exact done_next (.raiseInt l.toNat) h
  | lowerInt l => exact done_next (.lowerInt l.toNat) h
  | raiseNmi => exact done_next .raiseNmi h
  | z47Rsb => exact done_next (.cardDataOut _) h
  | z47Wsb => exact done_next (.cardDataOut _) h
  | z47Rcs => exact done_next (.cardDataOut _) h
  | z47Invalid b => exact done_next (.cardDataOut b) h

/-- A predicate of the state that reads neither the byte returned nor the operations still to run is kept by every step that every
effect keeps it on. -/
theorem step_keeps {P : State → Prop} (hreturned : ∀ s r, P s → P (s.setReturned r)) (hops : ∀ s ws, P s → P (s.setOps ws))
    (heffect : ∀ s u, P s → Effect s u → P u) {s t : State} (hs : P s) (h : step s = .next t) : P t := by
  unfold step at h
  split at h
  · split at h
    · rwa [← Host.Outcome.next.inj h]
    · rename_i w u hf
      have hu : P u := by
        unfold fetch at hf
        split at hf
        · cases hf
        · cases hf
          exact hops _ _ hs
      unfold runWord at h
      split at h
      · obtain ⟨v, r, he, rfl⟩ := exec_effect h
        exact hreturned _ _ (heffect _ _ hu he)
      · cases h
  · cases h

end Sys2Proof.Machine

namespace Sys2Proof.Machine

/-! ### Predicates that all the controller does keeps -/

/-- The parameter check writes the controller's registers alone. -/
theorem checkParams_writes_z47 (v : Byte) (d : Direction) (s : State) : ∃ z, (checkParams v d s).1 = s.setZ47 z := by
  unfold checkParams
  dsimp only
  split_ifs <;> exact ⟨_, rfl⟩

/-- A host-owned signal leaves its shadow written, and the device's handler run at most once. -/
theorem deviceSignal_induct {P : State → Prop} (b : Bool) {s : State} {handle : State → State} (hs : P s) (hhandle : P (handle s)) :
    P (deviceSignal b handle s) := by
  unfold deviceSignal
  split
  · split
    · exact hhandle
    · exact hs
  · exact hs
  · exact hs

/-- What every device's reset keeps, the reset broadcast keeps: `ioReset_keeps` for a predicate. -/
theorem ioReset_induct {P : State → Prop} (h : ∀ d t, P t → P (deviceReset d t)) {s : State} (hs : P s) : P (ioReset s) :=
  List.foldlRecOn _ _ hs fun t ht d _ => h d t ht

/-- `P` is kept by what the controller and the acknowledge pulses are made of, but for the drive sending a byte: writes of the
controller's own registers and of image bytes, drive-owned signals with the host's answer, host-owned signal shadows, and reads of the
data path. -/
structure KeptByController (P : State → Prop) : Prop where
  setZ47 : ∀ {s : State} (z : Z47), P s → P (s.setZ47 z)
  putImageByte : ∀ {s : State} (d : BitVec 2) (o : Nat) (v : Byte), P s → P (putImageByte d o v s)
  driveSignal : ∀ {s : State} (busy dtr ddOut error : Bool), P s →
    P (hostSignal (s.setLink { s.link with busy := busy, dtr := dtr, ddOut := ddOut, error := error }))
  hostShadow : ∀ {s : State} (mr dtak : Bool), P s → P (s.setLink { s.link with masterReset := mr, dtak := dtak })
  readByHost : ∀ {s : State}, P s → P (readByHost s).2
  readByDrive : ∀ {s : State}, P s → P (readByDrive s).2

namespace KeptByController

variable {P : State → Prop} (hP : KeptByController P) {s : State}
include hP

theorem setBusy (b : Bool) (hs : P s) : P (setBusy b s) := hP.driveSignal b _ _ _ hs
theorem setDtr (b : Bool) (hs : P s) : P (setDtr b s) := hP.driveSignal _ b _ _ hs
theorem setDdout (b : Bool) (hs : P s) : P (setDdout b s) := hP.driveSignal _ _ b _ hs
theorem setError (b : Bool) (hs : P s) : P (setError b s) := hP.driveSignal _ _ _ b hs

theorem commandComplete (hs : P s) : P (commandComplete s) := by
  unfold Machine.commandComplete
  dsimp only
  refine hP.setZ47 _ (hP.setBusy _ ?_)
  split
  · exact hP.setError _ (hP.setZ47 _ hs)
  · exact hP.setZ47 _ hs

theorem applyAction {r : State × Action} (hs : P r.1) : P (applyAction r) := by
  unfold Machine.applyAction
  split
  · exact hP.setZ47 _ hs
  · exact hP.setZ47 _ hs
  · exact hs
  · exact hP.commandComplete hs

theorem checkParams (v : Byte) (d : Direction) (hs : P s) : P (checkParams v d s).1 := by
  obtain ⟨z, hz⟩ := checkParams_writes_z47 v d s
  exact hz ▸ hP.setZ47 z hs

theorem rsbHandler (pos : Nat) (v : Byte) (hs : P s) : P (rsbHandler pos v s).1 := by
  unfold Machine.rsbHandler
  split_ifs
  · exact hs
  · exact hP.setZ47 _ hs
  · exact hP.checkParams v .read hs
  · exact hs
  · exact hP.setZ47 _ hs

theorem wsbHandler (pos : Nat) (v : Byte) (hs : P s) : P (wsbHandler pos v s).1 := by
  unfold Machine.wsbHandler
  split_ifs
  · exact hs
  · exact hP.setZ47 _ hs
  · exact hP.checkParams v .write hs
  · exact hP.setZ47 _ (hP.putImageByte _ _ v hs)

theorem rcsHandler (pos : Nat) (hs : P s) : P (rcsHandler pos s).1 := by
  unfold Machine.rcsHandler
  split
  · exact hP.setError false (hP.setZ47 _ hs)
  · exact hs

theorem handler (c : CtrlState) (pos : Nat) (v : Byte) (hs : P s) : P (handler c pos v s).1 := by
  cases c with
  | none => exact hs
  | readSectorsBuffered => exact hP.rsbHandler pos v hs
  | writeSectorsBuffered => exact hP.wsbHandler pos v hs
  | readControllerStatus => exact hP.rcsHandler pos hs
  | invalidCommand => exact hP.setZ47 _ hs

theorem startCommand (v : Byte) (hs : P s) : P (startCommand v s) :=
  hP.applyAction (hP.handler _ _ v (hP.setZ47 _ (hP.setBusy true (hP.setDtr false (hP.setZ47 _ hs)))))

theorem nextPosition (hs : P s) : P (nextPosition s) := hP.applyAction (hP.handler _ _ _ (hP.setZ47 _ hs))

theorem controllerDispatch (hs : P s) : P (controllerDispatch s) := by
  unfold Machine.controllerDispatch
  split_ifs
  · exact hP.startCommand _ hs
  · exact hP.setZ47 _ hs
  · exact hP.nextPosition hs

/-- The link step sends at most one byte, and that first. -/
theorem linkStep (hs : P s) (hsend : ∀ v, P (sendDrive v s)) : P (linkStep s) := by
  unfold Machine.linkStep
  split
  · exact hP.controllerDispatch hs
  · exact hP.setZ47 _ (hP.setDtr true hs)
  · exact hs
  · exact hP.setZ47 _ (hP.setDtr true (hP.setDdout true (hsend _)))
  · exact hs
  · exact hP.setZ47 _ (hP.setDtr false hs)
  · refine hP.setZ47 _ ?_
    split
    · exact hP.setDdout false hs
    · exact hs

/-- The notification writes the countdown before the link step runs. -/
theorem notification (c : Nat) (hs : P s) (hsend : ∀ v z, P (sendDrive v (s.setZ47 z))) : P (notification c s) := by
  unfold Machine.notification
  split
  · exact hP.setZ47 _ hs
  · exact hP.linkStep (hP.setZ47 _ hs) fun v => hsend v _

theorem masterReset (hs : P s) : P (masterReset s) :=
  hP.setDtr true (hP.setError false (hP.setDdout false (hP.setBusy false (hP.setZ47 _ hs))))

theorem onDtak (hs : P s) : P (onDtak s) := by
  unfold Machine.onDtak
  split
  · split
    · exact hP.setZ47 _ (hP.setDtr false (hP.setZ47 _ (hP.readByDrive hs)))
    · exact hs
  · exact hP.setZ47 _ hs
  · exact hs
  · exact hs
  · exact hs
  · exact hs
  · exact hs

theorem setMr (b : Bool) (hs : P s) : P (setMr b s) :=
  deviceSignal_induct b (hP.hostShadow b _ hs) (hP.masterReset (hP.hostShadow b _ hs))

theorem setDtak (b : Bool) (hs : P s) : P (setDtak b s) :=
  deviceSignal_induct b (hP.hostShadow _ b hs) (hP.onDtak (hP.hostShadow _ b hs))

theorem dtakPulse (hs : P s) : P (dtakPulse s) := hP.setDtak false (hP.setDtak true hs)

theorem cardDataIn (hs : P s) : P (cardDataIn s).2 := hP.dtakPulse (hP.readByHost hs)

theorem cardCommand (hhif : ∀ {s : State} (h : Hif), P s → P (s.setHif h)) (hirq : ∀ {s : State}, P s → P (recomputeIrq s))
    (v : Byte) (hs : P s) : P (cardCommand v s) := by
  unfold Machine.cardCommand cardMasterReset
  split
  · exact hirq (hhif _ hs)
  · exact hirq (hP.setMr _ (hhif _ (hhif _ hs)))

theorem cardReset (hhif : ∀ {s : State} (h : Hif), P s → P (s.setHif h)) (hirq : ∀ {s : State}, P s → P (recomputeIrq s))
    (hs : P s) : P (cardReset s) :=
  hirq (hP.setDtak false (hP.setMr false (hhif _ hs)))

end KeptByController
end Sys2Proof.Machine


namespace Sys2Proof.Machine

/-! ### Canonical byte stores (R31, R52) -/

/-- The canonical form reads page memory, the images and the configuration alone. -/
theorem State.Canonical.congr {s t : State} (hs : s.Canonical) (hmem : t.mem = s.mem) (hmedia : t.media = s.media)
    (hcfg : t.cfg = s.cfg) : t.Canonical := by
  unfold State.Canonical
  rwa [hmem, hmedia, hcfg]

/-- The controller writes no page byte, and an image only a byte at a time. -/
theorem canonical_keptByController : KeptByController State.Canonical where
  setZ47 _ hs := hs
  putImageByte {s} d o v hs := by
    obtain ⟨hmem, himages, hdrives⟩ := hs
    obtain ⟨himages', hlength⟩ := putImageByte_canonical s d o v himages
    exact ⟨by simpa using hmem, himages', by simpa [hlength] using hdrives⟩
  driveSignal _ _ _ _ hs := hs.congr (by simp) (by simp) (by simp)
  hostShadow _ _ hs := hs
  readByHost hs := hs
  readByDrive hs := hs

theorem Effect.canonical {s u : State} (hs : s.Canonical) (he : Effect s u) : u.Canonical := by
  cases he with
  | pageWrite p off v =>
    obtain ⟨hmem, himages, hdrives⟩ := hs
    exact ⟨pageWrite_wf s p off v hmem, by simpa using himages, by simpa using hdrives⟩
  | notification c => exact canonical_keptByController.notification c hs fun v z => hs.congr (by simp) (by simp) (by simp)
  | _ => exact hs.congr (by simp) (by simp) (by simp)

/-- Settles O16: memory is written by `pageWrite`, the images by the controller, and both keep the canonical form. -/
theorem stepKeepsCanonical : Obligations.StepKeepsCanonical := fun _ _ hs h =>
  step_keeps (fun _ _ hs => hs) (fun _ _ hs => hs) (fun _ _ hs he => he.canonical hs) hs h

/-! ### The direction flags (R39) -/

/-- The flags read the link alone. -/
theorem State.FlagsExclusive.congr {s t : State} (hs : s.FlagsExclusive)
    (hhost : t.link.dataFromHost = s.link.dataFromHost) (hdrive : t.link.dataFromDrive = s.link.dataFromDrive) :
    t.FlagsExclusive := by
  unfold State.FlagsExclusive
  rwa [hhost, hdrive]

/-- A byte sent by the host sets its flag and clears the other (R260). -/
theorem sendHost_flagsExclusive (v : Byte) (s : State) : (sendHost v s).FlagsExclusive := by simp [State.FlagsExclusive]

/-- A byte sent by the drive sets its flag and clears the other (R261). -/
theorem sendDrive_flagsExclusive (v : Byte) (s : State) : (sendDrive v s).FlagsExclusive := by simp [State.FlagsExclusive]

/-- A signal leaves both flags, and a read clears one. -/
theorem flagsExclusive_keptByController : KeptByController State.FlagsExclusive where
  setZ47 _ hs := hs
  putImageByte _ _ _ hs := hs
  driveSignal _ _ _ _ hs := hs.congr (by simp) (by simp)
  hostShadow _ _ hs := hs
  readByHost _ := by simp [State.FlagsExclusive]
  readByDrive _ := by simp [State.FlagsExclusive]

theorem recomputeIrq_flagsExclusive {s : State} (hs : s.FlagsExclusive) : (recomputeIrq s).FlagsExclusive :=
  hs.congr (by simp) (by simp)

theorem deviceReset_flagsExclusive (d : Device) (s : State) (hs : s.FlagsExclusive) : (deviceReset d s).FlagsExclusive := by
  cases d with
  | gpp => exact hs
  | hif => exact flagsExclusive_keptByController.cardReset (fun _ hs => hs) recomputeIrq_flagsExclusive hs
  | external n => exact hs

theorem Effect.flagsExclusive {s u : State} (hs : s.FlagsExclusive) (he : Effect s u) : u.FlagsExclusive := by
  have hP := flagsExclusive_keptByController
  cases he with
  | cardCommand v => exact hP.cardCommand (fun _ hs => hs) recomputeIrq_flagsExclusive v hs
  | cardDataIn => exact hP.cardDataIn hs
  | cardDataOut v => exact hP.dtakPulse (sendHost_flagsExclusive v s)
  | notification c => exact hP.notification c hs fun v z => sendDrive_flagsExclusive v _
  | reset => exact ioReset_induct deviceReset_flagsExclusive hs
  | sendHost v => exact sendHost_flagsExclusive v s
  | sendDrive v => exact sendDrive_flagsExclusive v s
  | readByHost => exact hP.readByHost hs
  | readByDrive => exact hP.readByDrive hs
  | setMr b => exact hP.setMr b hs
  | setDtak b => exact hP.setDtak b hs
  | _ => exact hs.congr (by simp) (by simp)

/-- Settles O33: only a sent byte sets a flag, and it clears the other one. -/
theorem stepKeepsFlagsExclusive : Obligations.StepKeepsFlagsExclusive := fun _ _ hs h =>
  step_keeps (fun _ _ hs => hs) (fun _ _ hs => hs) (fun _ _ hs he => he.flagsExclusive hs) hs h

/-! ### The request last sent (R42, R297) -/

/-- The request reads the registered host, the card and the link's DTR and Busy alone. -/
theorem State.RequestCurrent.congr {s t : State} (hs : s.RequestCurrent) (hcfg : t.cfg = s.cfg) (hhif : t.hif = s.hif)
    (hdtr : t.link.dtr = s.link.dtr) (hbusy : t.link.busy = s.link.busy) : t.RequestCurrent := by
  unfold State.RequestCurrent irqWanted
  rwa [hcfg, hhif, hdtr, hbusy]

/-- A recomputed request is current, whatever it was before (R297). -/
theorem recomputeIrq_requestCurrent (s : State) : (recomputeIrq s).RequestCurrent := by
  intro _
  simp [irqWanted]

/-- The registered card recomputes its request on every drive-owned signal (R295). -/
theorem hostSignal_requestCurrent (s : State) : (hostSignal s).RequestCurrent := by
  intro hcard
  rw [hostSignal_frame s |>.1] at hcard
  simp [hostSignal_hif, hcard, irqWanted]

/-- The link's other fields and the controller's registers are no part of the condition. -/
theorem requestCurrent_keptByController : KeptByController State.RequestCurrent where
  setZ47 _ hs := hs
  putImageByte _ _ _ hs := hs
  driveSignal _ _ _ _ _ := hostSignal_requestCurrent _
  hostShadow _ _ hs := hs
  readByHost hs := hs
  readByDrive hs := hs

theorem sendHost_requestCurrent {s : State} (v : Byte) (hs : s.RequestCurrent) : (sendHost v s).RequestCurrent :=
  hs.congr (by simp) (by simp) (by simp) (by simp)

theorem sendDrive_requestCurrent {s : State} (v : Byte) (hs : s.RequestCurrent) : (sendDrive v s).RequestCurrent :=
  hs.congr (by simp) (by simp) (by simp) (by simp)

theorem deviceReset_requestCurrent (d : Device) (s : State) (hs : s.RequestCurrent) : (deviceReset d s).RequestCurrent := by
  cases d with
  | gpp => exact hs
  | hif => exact recomputeIrq_requestCurrent _
  | external n => exact hs

theorem Effect.requestCurrent {s u : State} (hs : s.RequestCurrent) (he : Effect s u) : u.RequestCurrent := by
  have hP := requestCurrent_keptByController
  cases he with
  | cardCommand v => exact recomputeIrq_requestCurrent _
  | cardDataIn => exact hP.cardDataIn hs
  | cardDataOut v => exact hP.dtakPulse (sendHost_requestCurrent v hs)
  | notification c => exact hP.notification c hs fun v z => sendDrive_requestCurrent v (hP.setZ47 z hs)
  | reset => exact ioReset_induct deviceReset_requestCurrent hs
  | setBusy b => exact hP.setBusy b hs
  | setDtr b => exact hP.setDtr b hs
  | setDdout b => exact hP.setDdout b hs
  | setError b => exact hP.setError b hs
  | setMr b => exact hP.setMr b hs
  | setDtak b => exact hP.setDtak b hs
  | _ => exact hs.congr (by simp) (by simp) (by simp) (by simp)

/-- Settles O38: whatever changes DTR, Busy or the enable recomputes the request afterwards. -/
theorem stepKeepsRequestCurrent : Obligations.StepKeepsRequestCurrent := fun _ _ hs h =>
  step_keeps (fun _ _ hs => hs) (fun _ _ hs => hs) (fun _ _ hs he => he.requestCurrent hs) hs h

/-! ### The log (R53, R402) -/

/-- The log of `t` is that of `s` with at most one entry appended, under the same configuration. -/
def State.LogGrown (s t : State) : Prop := t.cfg = s.cfg ∧ ∃ es, t.log = s.log ++ es ∧ es.length ≤ 1

theorem State.LogGrown.of_same {s t : State} (hcfg : t.cfg = s.cfg) (hlog : t.log = s.log) : s.LogGrown t :=
  ⟨hcfg, [], by simp [hlog], Nat.zero_le 1⟩

theorem State.LogGrown.of_entry {s t : State} (e : LogEntry) (hcfg : t.cfg = s.cfg) (hlog : t.log = s.log ++ [e]) :
    s.LogGrown t := ⟨hcfg, [e], hlog, Nat.le_refl 1⟩

/-- What leaves the log leaves the number of entries appended. -/
theorem State.LogGrown.congr {s t u : State} (h : s.LogGrown t) (hcfg : u.cfg = t.cfg) (hlog : u.log = t.log) : s.LogGrown u := by
  unfold State.LogGrown
  rwa [hcfg, hlog]

theorem raiseInt_logGrown (l : Nat) (s : State) : s.LogGrown (raiseInt l s) := by
  unfold raiseInt
  split
  · exact .of_entry _ (by simp) rfl
  · exact .of_same rfl rfl

theorem lowerInt_logGrown (l : Nat) (s : State) : s.LogGrown (lowerInt l s) := by
  unfold lowerInt
  split
  · exact .of_entry _ (by simp) rfl
  · exact .of_same rfl rfl

/-- A byte the host sends over one of the drive logs the contention, and nothing else (R260). -/
theorem sendHost_logGrown (v : Byte) (s : State) : s.LogGrown (sendHost v s) := by
  unfold sendHost
  dsimp only
  split
  · exact .of_entry _ rfl rfl
  · exact .of_same rfl rfl

/-- A byte the drive sends over one of the host logs the contention, and nothing else (R261). -/
theorem sendDrive_logGrown (v : Byte) (s : State) : s.LogGrown (sendDrive v s) := by
  unfold sendDrive
  dsimp only
  split
  · exact .of_entry _ rfl rfl
  · exact .of_same rfl rfl

section Log
variable {s : State} (hlevel : s.cfg.z47IntLevel < s.cfg.intLevels.val)
include hlevel

/-- The request's level is one the interrupt controller has, so recomputing it logs nothing (R9 (e)). -/
theorem recomputeIrq_keeps_logGrown {t : State} (h : s.LogGrown t) : s.LogGrown (recomputeIrq t) := by
  have hcfg : t.cfg = s.cfg := h.1
  exact h.congr (by simp) (recomputeIrq_log t (by rwa [hcfg]))

/-- The controller logs nothing, but where it sends a byte. -/
theorem logGrown_keptByController : KeptByController s.LogGrown where
  setZ47 _ h := h
  putImageByte _ _ _ h := h
  driveSignal {t} _ _ _ _ h := by
    have hcfg : t.cfg = s.cfg := h.1
    exact h.congr (by simp) (hostSignal_log _ (by rwa [State.setLink_cfg, hcfg]))
  hostShadow _ _ h := h
  readByHost h := h
  readByDrive h := h

theorem deviceReset_keeps_logGrown (d : Device) (t : State) (h : s.LogGrown t) : s.LogGrown (deviceReset d t) := by
  cases d with
  | gpp => exact h
  | hif => exact (logGrown_keptByController hlevel).cardReset (fun _ h => h) (recomputeIrq_keeps_logGrown hlevel) h
  | external n => exact h

theorem Effect.logGrown {u : State} (he : Effect s u) : s.LogGrown u := by
  have hP := logGrown_keptByController hlevel
  have hs : s.LogGrown s := .of_same rfl rfl
  cases he with
  | cardCommand v => exact hP.cardCommand (fun _ h => h) (recomputeIrq_keeps_logGrown hlevel) v hs
  | cardDataIn => exact hP.cardDataIn hs
  | cardDataOut v => exact hP.dtakPulse (sendHost_logGrown v s)
  | notification c => exact hP.notification c hs fun v z => sendDrive_logGrown v (s.setZ47 z)
  | reset => exact ioReset_induct (deviceReset_keeps_logGrown hlevel) hs
  | raiseInt l => exact raiseInt_logGrown l s
  | lowerInt l => exact lowerInt_logGrown l s
  | sendHost v => exact sendHost_logGrown v s
  | sendDrive v => exact sendDrive_logGrown v s
  | setBusy b => exact hP.setBusy b hs
  | setDtr b => exact hP.setDtr b hs
  | setDdout b => exact hP.setDdout b hs
  | setError b => exact hP.setError b hs
  | setMr b => exact hP.setMr b hs
  | setDtak b => exact hP.setDtak b hs
  | _ => exact .of_same (by simp) (by simp)

end Log

/-- Settles O58: an operation sends at most one byte or names at most one level, and nothing else logs. -/
theorem oneLogEntryPerOperation : Obligations.OneLogEntryPerOperation := by
  intro i s t hok h
  obtain ⟨-, -, -, -, -, hlevel⟩ := config_ok_iff.1 hok
  obtain ⟨u, r, he, rfl⟩ := exec_effect h
  obtain ⟨-, hlog⟩ := he.logGrown (levelOk_iff.1 hlevel)
  exact hlog

end Sys2Proof.Machine

namespace Sys2Proof.Machine

/-! ### The controller's sequencer (R43 to R49, R320 to R350) -/

/-- A controller that dispatches: no countdown, no byte pending, and its counts in range. -/
structure Z47.Dispatching (z : Z47) : Prop where
  countDown : z.countDown = 0
  taken : z.rxPending = false
  sectorCount_pos : 1 ≤ z.sectorCount
  offset_le : z.offset ≤ imageSize

/-- A controller that runs a command, at a position that the command has (R328, R334). -/
structure Z47.Running (z : Z47) (numDrives : Nat) : Prop where
  commanded : z.ctrlState ≠ .none
  valid : z.ctrlState ≠ .invalidCommand
  started : 1 ≤ z.statePosition
  status : z.ctrlState = .readControllerStatus → z.statePosition = 1
  reading : z.ctrlState = .readSectorsBuffered → 3 ≤ z.statePosition → z.InTransfer numDrives
  writing : z.ctrlState = .writeSectorsBuffered → 3 ≤ z.statePosition → z.InTransfer numDrives ∧ 1 ≤ z.bytesToTransfer

/-- Only in AwaitingReadyState is a countdown left (R48, R334). -/
theorem Z47.Legal.countDown_zero {z : Z47} {n : Nat} (h : z.Legal n) (hl : z.linkState ≠ .awaitingReadyState) : z.countDown = 0 :=
  Nat.eq_zero_of_not_pos fun hpos => hl (h.settling hpos).1

/-- A byte waits only in Ready (R49). -/
theorem Z47.Legal.not_pending {z : Z47} {n : Nat} (h : z.Legal n) (hl : z.linkState ≠ .ready) : z.rxPending = false :=
  Bool.eq_false_iff.2 fun hp => hl (h.pending_only_ready hp)

/-- A dispatching controller that runs a command is legal. -/
theorem Z47.Dispatching.legal {z : Z47} {n : Nat} (hd : z.Dispatching) (hr : z.Running n) : z.Legal n where
  countDown_le := by simp [hd.countDown]
  settling h := absurd hd.countDown (Nat.ne_of_gt h)
  idle_position h := absurd h hr.commanded
  invalid_never_held := hr.valid
  pending_only_ready h := absurd h (by simp [hd.taken])
  sectorCount_pos := hd.sectorCount_pos
  offset_le := hd.offset_le
  status_position := hr.status
  running_position _ := hr.started
  reading := hr.reading
  writing := hr.writing

/-- The link state and the byte on offer are no part of what a running command needs. -/
theorem Z47.Running.relink {z : Z47} {n : Nat} (h : z.Running n) (l : LinkState) (b : Byte) :
    Z47.Running { z with linkState := l, txByte := b } n :=
  ⟨h.commanded, h.valid, h.started, h.status, h.reading, h.writing⟩

/-- The link state and the byte on offer are no part of what a dispatch needs. -/
theorem Z47.Dispatching.relink {z : Z47} (h : z.Dispatching) (l : LinkState) (b : Byte) :
    Z47.Dispatching { z with linkState := l, txByte := b } :=
  ⟨h.countDown, h.taken, h.sectorCount_pos, h.offset_le⟩

/-- A controller that has ended its command and settles is legal (R332, R334). -/
theorem Z47.Dispatching.settled {z : Z47} (n : Nat) (h : z.Dispatching) :
    Z47.Legal { z with ctrlState := .none, statePosition := 0, linkState := .awaitingReadyState, countDown := settleCycles } n where
  countDown_le := Nat.le_refl _
  settling _ := ⟨rfl, rfl⟩
  idle_position _ := rfl
  invalid_never_held := by simp
  pending_only_ready hp := absurd hp (by simp [h.taken])
  sectorCount_pos := h.sectorCount_pos
  offset_le := h.offset_le
  status_position hc := by cases hc
  running_position hc := absurd rfl hc
  reading hc := by cases hc
  writing hc := by cases hc

/-- The controller after a command ends (R332). -/
theorem commandComplete_z47 (s : State) :
    (commandComplete s).z47 = { s.z47 with
      ctrlState := .none, statePosition := 0, linkState := .awaitingReadyState, countDown := settleCycles } := by
  unfold commandComplete
  dsimp only
  split <;> simp

/-- What a handler answers to a dispatch: a controller that still dispatches and, where the command goes on, runs it. -/
def Answers (r : State × Action) : Prop :=
  r.1.z47.Dispatching ∧ (r.2 ≠ .complete → r.1.z47.Running r.1.cfg.numDrives)

/-- Every action on a handler's answer leaves a legal controller (R330). -/
theorem applyAction_legal {r : State × Action} (h : Answers r) : (applyAction r).SequencerLegal := by
  obtain ⟨s, a⟩ := r
  obtain ⟨hd, hr⟩ := h
  unfold applyAction State.SequencerLegal
  cases a with
  | req => exact (hd.relink _ _).legal ((hr (by simp)).relink _ _)
  | tx b => exact (hd.relink _ b).legal ((hr (by simp)).relink _ b)
  | stay => exact hd.legal (hr (by simp))
  | complete =>
    simp only [commandComplete_frame, commandComplete_z47]
    exact hd.settled _

/-! #### The handlers at the next position -/

/-- The parameter check writes where the transfer lies, and an error latch (R342). -/
theorem checkParams_z47 (v : Byte) (d : Direction) (s : State) :
    let z := (checkParams v d s).1.z47
    z.ctrlState = s.z47.ctrlState ∧ z.statePosition = s.z47.statePosition ∧ z.countDown = s.z47.countDown ∧
      z.rxPending = s.z47.rxPending ∧ z.sectorCount = s.z47.sectorCount := by
  unfold checkParams
  dsimp only
  split_ifs <;> exact ⟨rfl, rfl, rfl, rfl, rfl⟩

/-- A track and a sector within the disk begin within the image (R133, R381). -/
theorem imageOffset_le {track sector : Nat} (ht : track < tracks) (hs : sector ≤ sectorsPerTrack) :
    imageOffset track sector ≤ imageSize := by
  simp only [imageOffset, sectorSize, sectorsPerTrack, tracks, imageSize] at *
  omega

/-- The parameter check leaves an offset within the image. -/
theorem checkParams_offset_le (v : Byte) (d : Direction) {s : State} (h : s.z47.offset ≤ imageSize) :
    (checkParams v d s).1.z47.offset ≤ imageSize := by
  unfold checkParams
  dsimp only
  split_ifs with hdrive hplace
  · exact h
  · exact h
  all_goals
    simp only [not_or, Nat.not_le, Nat.not_lt] at hplace
    obtain ⟨htrack, -, hsector⟩ := hplace
    exact imageOffset_le htrack hsector

/-- A check that passes gives a transfer of whole sectors within the image of a drive that is served (R342). -/
theorem checkParams_passes {v : Byte} {d : Direction} {s : State} (h : (checkParams v d s).2 = true) :
    let z := (checkParams v d s).1.z47
    z.bytesToTransfer = z.sectorCount * sectorSize ∧ z.offset + z.bytesToTransfer ≤ imageSize ∧
      z.drive.toNat < s.cfg.numDrives := by
  unfold checkParams at h ⊢
  dsimp only at h ⊢
  split_ifs at h ⊢ with hdrive hplace hsize hprotected
  simp only [not_or, Nat.not_le] at hdrive
  exact ⟨rfl, Nat.not_lt.1 hsize, hdrive.1⟩

/-- Before the data phase a read or a write needs nothing of its transfer (R340, R341). -/
theorem Z47.running_of_parameters {z : Z47} (n : Nat)
    (hc : z.ctrlState = .readSectorsBuffered ∨ z.ctrlState = .writeSectorsBuffered)
    (hstarted : 1 ≤ z.statePosition) (hbefore : z.statePosition < 3) : z.Running n where
  commanded := by rcases hc with hc | hc <;> simp [hc]
  valid := by rcases hc with hc | hc <;> simp [hc]
  started := hstarted
  status h := by rcases hc with hc | hc <;> simp [hc] at h
  reading _ h := absurd h (Nat.not_le.2 hbefore)
  writing _ h := absurd h (Nat.not_le.2 hbefore)

/-- In the data phase a read or a write needs its transfer, and a write a byte to go (R340, R341). -/
theorem Z47.running_of_transfer {z : Z47} {n : Nat}
    (hc : z.ctrlState = .readSectorsBuffered ∨ z.ctrlState = .writeSectorsBuffered) (hstarted : 1 ≤ z.statePosition)
    (htransfer : z.InTransfer n) (hleft : z.ctrlState = .writeSectorsBuffered → 1 ≤ z.bytesToTransfer) : z.Running n where
  commanded := by rcases hc with hc | hc <;> simp [hc]
  valid := by rcases hc with hc | hc <;> simp [hc]
  started := hstarted
  status h := by rcases hc with hc | hc <;> simp [hc] at h
  reading _ _ := htransfer
  writing h _ := ⟨htransfer, hleft h⟩

/-- Position 3 of a read and of a write: a check that fails ends the command, and one that passes begins the data phase. -/
theorem checkParams_answers {s : State} (v : Byte) (d : Direction) (a : Action) (hd : s.z47.Dispatching)
    (hc : s.z47.ctrlState = .readSectorsBuffered ∨ s.z47.ctrlState = .writeSectorsBuffered) (hpos : s.z47.statePosition = 3) :
    Answers ((checkParams v d s).1, if (checkParams v d s).2 then a else .complete) := by
  obtain ⟨hctrl, hposition, hcount, htaken, hsectors⟩ := checkParams_z47 v d s
  refine ⟨⟨by rw [hcount, hd.countDown], by rw [htaken, hd.taken], by rw [hsectors]; exact hd.sectorCount_pos,
    checkParams_offset_le v d hd.offset_le⟩, fun hne => ?_⟩
  have hpass : (checkParams v d s).2 = true := by
    by_contra hf
    simp [hf] at hne
  obtain ⟨hbytes, hfits, hdrive⟩ := checkParams_passes hpass
  have hlength := hd.sectorCount_pos
  have htransfer : Z47.InTransfer (checkParams v d s).1.z47 (checkParams v d s).1.cfg.numDrives := by
    refine ⟨?_, hfits, by simpa using hdrive⟩
    rw [hposition, hbytes, hpos, Nat.mul_comm]
  rw [← hctrl] at hc
  refine Z47.running_of_transfer hc ?_ htransfer fun _ => ?_
  · rw [hposition]
    omega
  · rw [hbytes, hsectors]
    simp only [sectorSize]
    omega

end Sys2Proof.Machine

namespace Sys2Proof.Machine

/-- The state in which the handler runs at the next position (R328). -/
def State.atNextPosition (s : State) : State :=
  s.setZ47 { s.z47 with rxPending := false, statePosition := s.z47.statePosition + 1 }

theorem nextPosition_eq (s : State) :
    nextPosition s =
      applyAction (handler s.z47.ctrlState (s.z47.statePosition + 1) s.z47.rxByte s.atNextPosition) := rfl

/-- The state in which the handler runs at position 1 (R329). -/
def State.atStart (b : Byte) (s : State) : State :=
  let s := setBusy true (setDtr false (s.setZ47 { s.z47 with rxPending := false }))
  s.setZ47 { s.z47 with ctrlState := commandOf s.cfg.codes b, statePosition := 1 }

theorem startCommand_eq (b : Byte) (s : State) :
    startCommand b s = applyAction (handler (s.atStart b).z47.ctrlState 1 b (s.atStart b)) := rfl

theorem atStart_z47 (b : Byte) (s : State) :
    (s.atStart b).z47 = { s.z47 with rxPending := false, ctrlState := commandOf s.cfg.codes b, statePosition := 1 } := by
  simp [State.atStart]

/-- Every byte names a command, the invalid one among them (R333). -/
theorem commandOf_ne_none (c : Codes) (b : Byte) : commandOf c b ≠ .none := by
  unfold commandOf
  split_ifs <;> simp

/-- Position 1 of every command (R340, R341, R343, R344). -/
theorem handler_answers_start {s : State} (v : Byte) (hd : s.z47.Dispatching) (hpos : s.z47.statePosition = 1)
    (hc : s.z47.ctrlState ≠ .none) : Answers (handler s.z47.ctrlState 1 v s) := by
  have hbefore : s.z47.statePosition < 3 := by omega
  cases hctrl : s.z47.ctrlState with
  | none => exact absurd hctrl hc
  | readSectorsBuffered => exact ⟨hd, fun _ => Z47.running_of_parameters _ (.inl hctrl) hpos.ge hbefore⟩
  | writeSectorsBuffered => exact ⟨hd, fun _ => Z47.running_of_parameters _ (.inr hctrl) hpos.ge hbefore⟩
  | readControllerStatus =>
    have hz : (rcsHandler 1 s).1.z47 = { s.z47 with err := ErrorLatches.clear } := by simp [rcsHandler, State.setErr]
    refine ⟨?_, fun _ => ?_⟩ <;> simp only [handler, hz]
    · exact ⟨hd.countDown, hd.taken, hd.sectorCount_pos, hd.offset_le⟩
    · exact ⟨by simp [hctrl], by simp [hctrl], hpos.ge, fun _ => hpos, by simp [hctrl], by simp [hctrl]⟩
  | invalidCommand => exact ⟨⟨hd.countDown, hd.taken, hd.sectorCount_pos, hd.offset_le⟩, fun h => absurd rfl h⟩

section Dispatch
variable {s : State} (hlegal : s.SequencerLegal) (hzero : s.z47.countDown = 0)
include hlegal hzero

theorem atNextPosition_dispatching : s.atNextPosition.z47.Dispatching :=
  ⟨hzero, rfl, hlegal.sectorCount_pos, hlegal.offset_le⟩

/-- The cursor moves on one byte as the position does: what they add up to, and where the transfer ends, stay (R340, R341). -/
theorem advanceTransfer_inTransfer {n : Nat} (h : s.z47.InTransfer n) (hbytes : 1 ≤ s.z47.bytesToTransfer) :
    s.atNextPosition.advanceTransfer.z47.Dispatching ∧ s.atNextPosition.advanceTransfer.z47.InTransfer n := by
  obtain ⟨hsum, hfits, hdrive⟩ := h
  refine ⟨⟨hzero, rfl, hlegal.sectorCount_pos, ?_⟩, ?_, ?_, hdrive⟩ <;>
    simp only [State.advanceTransfer, State.atNextPosition, State.setZ47_z47] <;>
    omega

/-- A read at its next position: the track, the check of the parameters, then a byte of the image or the end (R340). -/
theorem rsbHandler_answers (hc : s.z47.ctrlState = .readSectorsBuffered) (v : Byte) :
    Answers (rsbHandler (s.z47.statePosition + 1) v s.atNextPosition) := by
  have hd := atNextPosition_dispatching hlegal hzero
  have hstarted := hlegal.running_position (by simp [hc])
  obtain hpos | hpos | hpos : s.z47.statePosition = 1 ∨ s.z47.statePosition = 2 ∨ 3 ≤ s.z47.statePosition := by omega
  · rw [hpos]
    exact ⟨⟨hd.countDown, hd.taken, hd.sectorCount_pos, hd.offset_le⟩, fun _ =>
      Z47.running_of_parameters _ (.inl hc) (Nat.le_add_left 1 _) (show s.z47.statePosition + 1 < 3 by omega)⟩
  · rw [hpos]
    exact checkParams_answers v .read .stay hd (.inl hc) (by simp [State.atNextPosition, hpos])
  · rw [rsbHandler, if_neg (by omega), if_neg (by omega), if_neg (by omega)]
    split
    · exact ⟨hd, fun h => absurd rfl h⟩
    · rename_i hbytes
      obtain ⟨hdispatching, hin⟩ := advanceTransfer_inTransfer hlegal hzero (hlegal.reading hc hpos) (Nat.pos_of_ne_zero hbytes)
      exact ⟨hdispatching, fun _ => Z47.running_of_transfer (.inl hc) (Nat.le_add_left 1 _) hin
        fun h => absurd (hc.symm.trans h) (by simp)⟩

/-- A write at its next position: the track, the check of the parameters, then a byte into the image, the last of which is the end
(R341). -/
theorem wsbHandler_answers (hc : s.z47.ctrlState = .writeSectorsBuffered) (v : Byte) :
    Answers (wsbHandler (s.z47.statePosition + 1) v s.atNextPosition) := by
  have hd := atNextPosition_dispatching hlegal hzero
  have hstarted := hlegal.running_position (by simp [hc])
  obtain hpos | hpos | hpos : s.z47.statePosition = 1 ∨ s.z47.statePosition = 2 ∨ 3 ≤ s.z47.statePosition := by omega
  · rw [hpos]
    exact ⟨⟨hd.countDown, hd.taken, hd.sectorCount_pos, hd.offset_le⟩, fun _ =>
      Z47.running_of_parameters _ (.inr hc) (Nat.le_add_left 1 _) (show s.z47.statePosition + 1 < 3 by omega)⟩
  · rw [hpos]
    exact checkParams_answers v .write .req hd (.inr hc) (by simp [State.atNextPosition, hpos])
  · obtain ⟨htransfer, hbytes⟩ := hlegal.writing hc hpos
    obtain ⟨hdispatching, hin⟩ := advanceTransfer_inTransfer hlegal hzero htransfer hbytes
    rw [wsbHandler, if_neg (by omega), if_neg (by omega), if_neg (by omega)]
    exact ⟨hdispatching, fun hgoeson => Z47.running_of_transfer (.inr hc) (Nat.le_add_left 1 _) hin fun _ =>
      Nat.pos_of_ne_zero fun hlast => hgoeson (if_pos hlast)⟩

/-- Every handler answers the next position of the command that runs (R328). -/
theorem nextPosition_legal (hc : s.z47.ctrlState ≠ .none) : (nextPosition s).SequencerLegal := by
  rw [nextPosition_eq]
  refine applyAction_legal ?_
  cases hctrl : s.z47.ctrlState with
  | none => exact absurd hctrl hc
  | readSectorsBuffered => exact rsbHandler_answers hlegal hzero hctrl _
  | writeSectorsBuffered => exact wsbHandler_answers hlegal hzero hctrl _
  | readControllerStatus =>
    rw [hlegal.status_position hctrl]
    exact ⟨atNextPosition_dispatching hlegal hzero, fun h => absurd rfl h⟩
  | invalidCommand => exact absurd hctrl hlegal.invalid_never_held

/-- A command byte starts its command at position 1, or ends at once (R329). -/
theorem startCommand_legal (b : Byte) : (startCommand b s).SequencerLegal := by
  rw [startCommand_eq]
  refine applyAction_legal (handler_answers_start b ?_ ?_ ?_) <;> rw [atStart_z47]
  · exact ⟨hzero, rfl, hlegal.sectorCount_pos, hlegal.offset_le⟩
  · exact commandOf_ne_none _ b

end Dispatch

/-- The countdown and the pending byte bind the link state: without them it may be any. -/
theorem Z47.Legal.relink {z : Z47} {n : Nat} (h : z.Legal n) (hzero : z.countDown = 0) (htaken : z.rxPending = false)
    (l : LinkState) :
    Z47.Legal { z with linkState := l } n :=
  { h with
    settling := fun hpos => absurd hzero (Nat.ne_of_gt hpos)
    pending_only_ready := fun hp => absurd hp (by simp [htaken]) }

/-- A byte received makes the controller Ready (R326). -/
theorem Z47.Legal.received {z : Z47} {n : Nat} (h : z.Legal n) (hzero : z.countDown = 0) (b : Byte) :
    Z47.Legal { z with linkState := .ready, rxByte := b, rxPending := true } n :=
  { h with
    settling := fun hpos => absurd hzero (Nat.ne_of_gt hpos)
    pending_only_ready := fun _ => rfl }

/-- A countdown that goes on, or ends, is legal (R320). -/
theorem Z47.Legal.countedDown {z : Z47} {n c : Nat} (h : z.Legal n) (hc : c ≤ z.countDown) :
    Z47.Legal { z with countDown := c } n :=
  { h with
    countDown_le := hc.trans h.countDown_le
    settling := fun hpos => h.settling (Nat.lt_of_lt_of_le hpos hc) }

/-- The sequencer reads the controller and the number of drives alone. -/
theorem State.SequencerLegal.congr {s t : State} {z : Z47} (h : z.Legal s.cfg.numDrives) (hcfg : t.cfg = s.cfg) (hz : t.z47 = z) :
    t.SequencerLegal := by
  unfold State.SequencerLegal
  rwa [hcfg, hz]

section Controller
variable {s : State} (hlegal : s.SequencerLegal)
include hlegal

theorem controllerDispatch_legal (hzero : s.z47.countDown = 0) : (controllerDispatch s).SequencerLegal := by
  unfold controllerDispatch
  split_ifs with hc hp
  · exact startCommand_legal hlegal hzero _
  · exact hlegal.relink hzero (by simpa using hp) _
  · exact nextPosition_legal hlegal hzero hc

/-- The link step with no countdown left (R321). -/
theorem linkStep_legal (hzero : s.z47.countDown = 0) : (linkStep s).SequencerLegal := by
  have hmoved (l : LinkState) (hl : s.z47.linkState ≠ .ready) := hlegal.relink hzero (hlegal.not_pending hl) l
  unfold linkStep
  split <;> rename_i hlink
  · exact controllerDispatch_legal hlegal hzero
  · exact .congr (hmoved .awaitingToReceive (by simp [hlink])) (by simp) (by simp)
  · exact hlegal
  · exact .congr (hmoved .awaitingTransmitComplete (by simp [hlink])) (by simp) (by simp)
  · exact hlegal
  · exact .congr (hmoved .awaitingReadyState (by simp [hlink])) (by simp) (by simp)
  · refine .congr (hmoved .ready (by simp [hlink])) ?_ ?_ <;> dsimp only <;> split <;> simp

theorem notification_legal (c : Nat) : (notification c s).SequencerLegal := by
  unfold notification
  split
  · exact hlegal.countedDown (Nat.sub_le _ _)
  · exact linkStep_legal (s := s.setZ47 { s.z47 with countDown := 0 }) (hlegal.countedDown (Nat.zero_le _)) rfl

/-- An acknowledge takes a byte or ends an offer, where the controller waits for one (R326). -/
theorem onDtak_legal : (onDtak s).SequencerLegal := by
  unfold onDtak
  split <;> rename_i hlink
  · have hzero := hlegal.countDown_zero (by simp [hlink])
    split
    · exact .congr (hlegal.received hzero s.link.data) (by simp) (by simp)
    · exact hlegal
  · exact hlegal.relink (hlegal.countDown_zero (by simp [hlink])) (hlegal.not_pending (by simp [hlink])) _
  · exact hlegal
  · exact hlegal
  · exact hlegal
  · exact hlegal
  · exact hlegal

theorem setDtak_legal (b : Bool) : (setDtak b s).SequencerLegal :=
  deviceSignal_induct (s := s.setLink { s.link with dtak := b }) b hlegal (onDtak_legal (s := s.setLink _) hlegal)

/-- A master reset leaves the controller as power-on does (R350). -/
theorem setMr_legal (b : Bool) : (setMr b s).SequencerLegal :=
  deviceSignal_induct (s := s.setLink { s.link with masterReset := b }) b hlegal
    (.congr (s := s) (z47_initial_legal _) (by simp) (by simp))

theorem dtakPulse_legal : (dtakPulse s).SequencerLegal := setDtak_legal (setDtak_legal hlegal true) false

theorem setHif_legal (h : Hif) : (s.setHif h).SequencerLegal := hlegal

theorem recomputeIrq_legal : (recomputeIrq s).SequencerLegal := .congr hlegal (by simp) (by simp)

theorem cardCommand_legal (v : Byte) : (cardCommand v s).SequencerLegal := by
  unfold cardCommand cardMasterReset
  split
  · exact recomputeIrq_legal (setHif_legal hlegal _)
  · exact recomputeIrq_legal (setMr_legal (setHif_legal (setHif_legal hlegal _) _) _)

theorem cardReset_legal : (cardReset s).SequencerLegal :=
  recomputeIrq_legal (setDtak_legal (setMr_legal (setHif_legal hlegal _) false) false)

end Controller

theorem deviceReset_legal (d : Device) (s : State) (hs : s.SequencerLegal) : (deviceReset d s).SequencerLegal := by
  cases d with
  | gpp => exact hs
  | hif => exact cardReset_legal hs
  | external n => exact hs

theorem Effect.sequencerLegal {s u : State} (hs : s.SequencerLegal) (he : Effect s u) : u.SequencerLegal := by
  cases he with
  | cardCommand v => exact cardCommand_legal hs v
  | cardDataIn => exact dtakPulse_legal (.congr hs (by simp) (by simp))
  | cardDataOut v => exact dtakPulse_legal (.congr hs (by simp) (by simp))
  | notification c => exact notification_legal hs c
  | reset => exact ioReset_induct deviceReset_legal hs
  | setMr b => exact setMr_legal hs b
  | setDtak b => exact setDtak_legal hs b
  | _ => exact .congr hs (by simp) (by simp)

/-- Settles O52: the controller moves in a notification, where it has no countdown left, and where it hears the host. -/
theorem stepKeepsSequencerLegal : Obligations.StepKeepsSequencerLegal := fun _ _ hs _ h =>
  step_keeps (fun _ _ hs => hs) (fun _ _ hs => hs) (fun _ _ hs he => he.sequencerLegal hs) hs h

end Sys2Proof.Machine

namespace Sys2Proof.Machine

/-! ### What each operation may write (R36, R54, R84, R161, R201) -/

/-- The owner of a port covers it (R37). -/
theorem owner_covers {c : Config} {p : Port} {k : Claim} (h : c.owner p = some k) : k.covers p = true :=
  List.find?_some (p := fun j : Claim => j.covers p) h

/-- A device's write handler leaves the decoder and the latch, but at the GPP's first port (R36, R201). -/
theorem deviceOut_keeps_dec_gpp {d : Device} {off : Nat} (v : Byte) (s : State) (h : d = .gpp → off ≠ 0) :
    (deviceOut d off v s).dec = s.dec ∧ (deviceOut d off v s).gpp = s.gpp := by
  unfold deviceOut
  split
  · exact absurd rfl (h rfl)
  all_goals simp

/-- An OUT leaves the decoder and the latch, but at a port where a claim of the GPP begins. -/
theorem ioOut_keeps_dec_gpp {p : Port} {s : State} (v : Byte) (h : ∀ k, s.cfg.owner p = some k → k.dev = .gpp → k.base ≠ p) :
    (ioOut p v s).dec = s.dec ∧ (ioOut p v s).gpp = s.gpp := by
  cases howner : s.cfg.owner p with
  | none => simp [ioOut, howner]
  | some k =>
    rw [ioOut_of_owner v howner]
    refine deviceOut_keeps_dec_gpp v s fun hdev hoff => h k howner hdev (BitVec.eq_of_toNat_eq ?_)
    have hbase : k.base.toNat ≤ p.toNat := by
      have hcovers := owner_covers howner
      simp only [Claim.covers, Bool.and_eq_true, decide_eq_true_eq] at hcovers
      exact hcovers.1
    omega

/-- Settles O15, from what the shared operations leave alone: an OUT is the one operation that needs to know its port's owner. -/
theorem onlyMwrAndTickStore : Obligations.OnlyMwrAndTickStore := by
  intro i s t h
  cases i with
  | mwr a v =>
    cases h
    exact ⟨by simp, fun hne => absurd rfl (hne a v), by simp, by simp⟩
  | tick c =>
    cases h
    refine ⟨?_, fun _ => ?_, fun hne => absurd rfl (hne c), fun _ => ⟨?_, ?_⟩⟩ <;> split <;> simp
  | reset =>
    cases h
    exact ⟨by simp, by simp, by simp, False.elim⟩
  | out p v =>
    cases h
    exact ⟨by simp, by simp, by simp, ioOut_keeps_dec_gpp v⟩
  | gppWr v =>
    cases h
    exact ⟨by simp, by simp, by simp, ioOut_keeps_dec_gpp v⟩
  | z47Cmd v =>
    cases h
    exact ⟨by simp, by simp, by simp, ioOut_keeps_dec_gpp v⟩
  | z47Dout v =>
    cases h
    exact ⟨by simp, by simp, by simp, ioOut_keeps_dec_gpp v⟩
  | _ =>
    cases h
    exact ⟨by simp, by simp, by simp, by simp⟩

/-! ### RESET (R166, R431, R433) -/

/-- The claims in the order of their lowest port are the claims. -/
theorem mem_claimInsert {k j : Claim} {l : List Claim} : k ∈ Claim.insert j l ↔ k = j ∨ k ∈ l := by
  induction l with
  | nil => simp [Claim.insert]
  | cons i l ih =>
    unfold Claim.insert
    split
    · simp
    · simp [ih, or_left_comm]

theorem mem_claimSort {k : Claim} {l : List Claim} : k ∈ Claim.sort l ↔ k ∈ l := by
  induction l with
  | nil => simp [Claim.sort]
  | cons j l ih => simp [Claim.sort, mem_claimInsert, ih]

/-- Every device not seen yet is taken where it first stands. -/
theorem mem_devicesOnce {d : Device} {l : List Claim} (seen : List Device) :
    d ∈ Claim.devicesOnce seen l ↔ d ∉ seen ∧ ∃ k ∈ l, k.dev = d := by
  induction l generalizing seen with
  | nil => simp [Claim.devicesOnce]
  | cons j l ih =>
    unfold Claim.devicesOnce
    split <;> rename_i hseen
    · rw [ih]
      simp only [List.mem_cons, exists_eq_or_imp]
      exact and_congr_right fun hd => ⟨.inr, fun h => h.resolve_left fun he => hd (he ▸ hseen)⟩
    · rw [List.mem_cons, ih]
      simp only [List.mem_cons, exists_eq_or_imp, not_or]
      by_cases he : d = j.dev
      · simp [he, hseen]
      · simp [he, Ne.symm he]

/-- A device takes part in the reset broadcast where it owns a port (R167). -/
theorem mem_resetOrder {c : Config} {d : Device} : d ∈ c.resetOrder ↔ ∃ k ∈ c.claims, k.dev = d := by
  simp [Config.resetOrder, mem_devicesOnce, mem_claimSort]

theorem owner_mem_resetOrder {c : Config} {p : Port} {k : Claim} (h : c.owner p = some k) : k.dev ∈ c.resetOrder :=
  mem_resetOrder.2 ⟨k, List.mem_of_find?_eq_some h, rfl⟩

/-- The card's reset as one update: the request, if raised, is lowered (R296, R297). -/
theorem cardReset_eq {s : State} (hlevel : s.cfg.z47IntLevel < s.cfg.intLevels.val) :
    cardReset s = { s with
      link := { s.link with masterReset := false, dtak := false }
      hif := ⟨false, false, false, false⟩
      pending := if s.hif.irq = true then s.pending &&& ~~~levelBit s.cfg.z47IntLevel else s.pending
      cpu := if s.hif.irq = true then s.cpu ++ [.lowerInt s.cfg.z47IntLevel] else s.cpu } := by
  unfold cardReset
  rw [recomputeIrq_eq_settleIrq _ (by simpa using hlevel)]
  cases hirq : s.hif.irq <;> simp [settleIrq, irqWanted, hirq, State.setHif, State.setLink]

theorem cardReset_cardReset {s : State} (hlevel : s.cfg.z47IntLevel < s.cfg.intLevels.val) :
    cardReset (cardReset s) = cardReset s := by
  rw [cardReset_eq (s := cardReset s) (by simpa using hlevel), cardReset_eq hlevel]
  simp

theorem cardReset_gppReset {s : State} (hlevel : s.cfg.z47IntLevel < s.cfg.intLevels.val) :
    cardReset (gppReset s) = gppReset (cardReset s) := by
  rw [cardReset_eq (s := gppReset s) (by simpa using hlevel), cardReset_eq hlevel]
  rfl

/-- The state after the resets of the GPP and of the card, where the broadcast has reached them. -/
def devicesReset (gpp hif : Bool) (s : State) : State :=
  let s := if hif then cardReset s else s
  if gpp then gppReset s else s

section Broadcast
variable {s : State} (hlevel : s.cfg.z47IntLevel < s.cfg.intLevels.val)
include hlevel

/-- One more device's reset: a second one of the same device changes nothing, and the order of the two does not matter. -/
theorem deviceReset_devicesReset (d : Device) (gpp hif : Bool) :
    deviceReset d (devicesReset gpp hif s) = devicesReset (gpp || decide (d = .gpp)) (hif || decide (d = .hif)) s := by
  cases d with
  | gpp => cases gpp <;> simp [deviceReset, devicesReset, gppReset, State.setGpp]
  | hif =>
    cases gpp <;> cases hif <;> simp [deviceReset, devicesReset, cardReset_gppReset, cardReset_cardReset, hlevel]
  | external n => simp [deviceReset]

theorem foldl_deviceReset (l : List Device) (gpp hif : Bool) :
    l.foldl (fun t d => deviceReset d t) (devicesReset gpp hif s) =
      devicesReset (gpp || decide (.gpp ∈ l)) (hif || decide (.hif ∈ l)) s := by
  induction l generalizing gpp hif with
  | nil => simp
  | cons d l ih =>
    rw [List.foldl_cons, deviceReset_devicesReset hlevel, ih]
    simp [Bool.or_assoc, eq_comm]

/-- A broadcast that reaches both the GPP and the card. -/
theorem ioReset_of_mem (hgpp : .gpp ∈ s.cfg.resetOrder) (hhif : .hif ∈ s.cfg.resetOrder) : ioReset s = gppReset (cardReset s) := by
  have h := foldl_deviceReset hlevel s.cfg.resetOrder false false
  simpa [ioReset, devicesReset, hgpp, hhif] using h

end Broadcast

/-- The registrations of R434: the owners of the three ports with a fixed role. -/
theorem wired_owners {c : Config} (h : c.wired = true) :
    c.owner c.codes.gppPort = some ⟨.gpp, c.codes.gppPort, 1⟩ ∧
      c.owner c.codes.z47PortBase = some ⟨.hif, c.codes.z47PortBase, 2⟩ := by
  simp only [Config.wired, Bool.and_eq_true, decide_eq_true_eq] at h
  obtain ⟨⟨⟨⟨⟨hgpp, hbase⟩, -⟩, -⟩, -⟩, -⟩ := h
  exact ⟨hgpp, hbase⟩

/-- Settles O55: both devices own ports, so the broadcast is the reset of each, and the interrupt controller's reset comes last. -/
theorem resetReachesWhatTheSpecLists : Obligations.ResetReachesWhatTheSpecLists := by
  intro s hok hwired
  obtain ⟨-, -, -, -, -, hlevel⟩ := config_ok_iff.1 hok
  obtain ⟨hgpp, hhif⟩ := wired_owners hwired
  have hdevices : ioReset (decoderReset s) = gppReset (cardReset (decoderReset s)) :=
    ioReset_of_mem (by simpa using levelOk_iff.1 hlevel) (owner_mem_resetOrder hgpp) (owner_mem_resetOrder hhif)
  calc exec .reset s = done (intcReset (ioReset (decoderReset s))) := rfl
    _ = _ := by rw [hdevices, cardReset_eq (by simpa using levelOk_iff.1 hlevel)]; rfl

/-! ### Power-on (R430) -/

/-- A card whose request is off and not wanted has nothing to answer to a signal. -/
theorem hostSignal_of_disabled {s : State} (hie : s.hif.ie = false) (hirq : s.hif.irq = false) : hostSignal s = s := by
  unfold hostSignal
  split
  · simp [recomputeIrq, irqWanted, hie, hirq]
  · rfl
  · rfl

/-- A master reset with such a card makes no call (R350, R351). -/
theorem masterReset_of_disabled {s : State} (hie : s.hif.ie = false) (hirq : s.hif.irq = false) :
    masterReset s =
      (s.setZ47 Z47.initial).setLink { s.link with busy := false, ddOut := false, error := false, dtr := true } := by
  simp [masterReset, setDtr, setError, setDdout, setBusy, hostSignal_of_disabled, hie, hirq, State.setLink]

/-- Power-on leaves what `State.reset` shows of the reference H89, but for what the configuration and the environment give: the card's
registers are 0 before the master reset, so that raises DTR and makes no call. -/
theorem powerOn_eq (c : Config) (mem : Memory) (media : List Memory) :
    powerOn c mem media = { State.reset with cfg := c, mem := mem, media := media, dec := ⟨c.gppBitsAtReset, 0, 0⟩ } := by
  unfold powerOn
  exact masterReset_of_disabled rfl rfl

/-- Settles O56: both parts are `powerOn_eq`, with the fields of the state written out. -/
theorem powerOnLeavesTheInitialState : Obligations.PowerOnLeavesTheInitialState :=
  ⟨fun c mem media => powerOn_eq c mem media, (powerOn_eq _ _ _).symm⟩

end Sys2Proof.Machine

/-! The address space (20_memory.md): what the page kinds read and store, runs of operations over pages and banks, and the drive images
as a write fills them. -/

namespace Sys2Proof.Machine

/-! ### Reads by page kind (R85, R88, R160) -/

/-- MRD returns the byte of the page read, and changes nothing else. -/
theorem exec_mrd {s : State} {a : Addr} {b : Byte} (h : pageRead s (resolve s a) (offsetOf a) = b) :
    exec (.mrd a) s = .next (s.setReturned (some b)) := h ▸ rfl

/-- MWR is the page write, and returns no byte. -/
theorem exec_mwr {s t : State} {a : Addr} {v : Byte} (h : pageWrite (resolve s a) (offsetOf a) v s = t) :
    exec (.mwr a v) s = .next (t.setReturned none) := h ▸ rfl

theorem pageRead_of_stored {s : State} {p : Nat} (off : PageOffset) (h : s.cfg.kind p = .ram ∨ s.cfg.kind p = .rom) :
    pageRead s p off = s.pageByte p off := by
  rcases h with h | h <;> simp [pageRead, h]

theorem pageRead_of_nil {s : State} {p : Nat} (off : PageOffset) (h : s.cfg.kind p = .nil) : pageRead s p off = 0x00#8 := by
  simp [pageRead, h]

theorem pageRead_of_wur {s : State} {p shadow : Nat} {ro ins : Byte} (off : PageOffset) (h : s.cfg.kind p = .wur ro ins shadow) :
    pageRead s p off = if maskBit ins (subBlock off) then s.pageByte p off else s.cfg.wurUninstalledRead := by
  simp [pageRead, h]

/-- Settles O10, one rule for reading each kind of page. -/
theorem mrdReturnsTheResolvedByte : Obligations.MrdReturnsTheResolvedByte := by
  rintro s a p off rfl rfl
  refine ⟨fun h => ?_, fun h => ?_, fun ro ins shadow h => ⟨fun hins => ?_, fun hins => ?_⟩⟩ <;> refine exec_mrd ?_
  · exact pageRead_of_stored _ h
  · exact pageRead_of_nil _ h
  · exact (pageRead_of_wur _ h).trans (if_pos hins)
  · exact (pageRead_of_wur _ h).trans (if_neg (Bool.eq_false_iff.1 hins))

/-! ### Writes by page kind (R86, R89, R161) -/

/-- A write to page `p` at offset `off` is stored in page `q`: in `p` itself where that is RAM or an overlay's sub-block that is installed
and not read-only, and in an overlay's shadow (R86, R89; log entry 13). `pageByte_pageWrite` ties it to the model. -/
def State.writeReaches (s : State) (p : Nat) (off : PageOffset) (q : Nat) : Bool :=
  match s.cfg.kind p with
  | .ram => decide (q = p)
  | .rom => false
  | .nil => false
  | .wur ro ins shadow =>
    decide (q = shadow ∧ s.cfg.kind shadow = .ram) ||
      decide (q = p ∧ maskBit ins (subBlock off) = true ∧ maskBit ro (subBlock off) = false)

theorem pageByte_shadowWrite (s : State) (p q : Nat) (off r : PageOffset) (v : Byte) (hm : s.mem.wf = true) :
    (shadowWrite p off v s).pageByte q r = if r = off ∧ q = p ∧ s.cfg.kind p = .ram then v else s.pageByte q r := by
  unfold shadowWrite
  split
  · rename_i h
    simp [State.pageByte_putPageByte, hm, h, and_comm]
  · rename_i h
    exact (if_neg fun ⟨_, _, hram⟩ => h hram).symm

/-- A write under ROM stores into the shadow, and into the overlay where the sub-block is open to writes. -/
theorem pageByte_wurWrite (s : State) (ro ins : Byte) (shadow p q : Nat) (off r : PageOffset) (v : Byte) (hm : s.mem.wf = true) :
    (wurWrite ro ins shadow p off v s).pageByte q r =
      if r = off ∧ (q = shadow ∧ s.cfg.kind shadow = .ram ∨
        q = p ∧ maskBit ins (subBlock off) = true ∧ maskBit ro (subBlock off) = false) then v else s.pageByte q r := by
  by_cases hopen : maskBit ins (subBlock off) = true ∧ maskBit ro (subBlock off) = false
  · have hboth : wurWrite ro ins shadow p off v s = shadowWrite shadow off v (s.putPageByte p off v) := by
      simp [wurWrite, hopen]
    rw [hboth, pageByte_shadowWrite _ _ _ _ _ _ (Memory.write_wf _ _ hm), State.pageByte_putPageByte _ _ _ _ _ _ hm]
    by_cases hr : r = off <;> by_cases hq : q = p <;> simp [hr, hq, hopen]
  · have hshadow : wurWrite ro ins shadow p off v s = shadowWrite shadow off v s := by
      simp only [wurWrite, Bool.and_eq_true, Bool.not_eq_true', if_neg hopen]
    rw [hshadow, pageByte_shadowWrite _ _ _ _ _ _ hm]
    simp [hopen]

/-- A page write stores into the pages it reaches, at its own offset, and nowhere else. -/
theorem pageByte_pageWrite (s : State) (p q : Nat) (off r : PageOffset) (v : Byte) (hm : s.mem.wf = true) :
    (pageWrite p off v s).pageByte q r = if r = off ∧ s.writeReaches p off q = true then v else s.pageByte q r := by
  unfold pageWrite State.writeReaches
  cases s.cfg.kind p with
  | ram => simp [State.pageByte_putPageByte, hm, and_comm]
  | rom => simp
  | nil => simp
  | wur ro ins shadow => simp [pageByte_wurWrite, hm]

/-- A page write changes the bytes of pages alone. -/
theorem pageWrite_eq_setMem (p : Nat) (off : PageOffset) (v : Byte) (s : State) :
    pageWrite p off v s = s.setMem (pageWrite p off v s).mem := by
  refine State.eq_of_fields ?_ rfl ?_ ?_ ?_ ?_ ?_ ?_ ?_ ?_ ?_ ?_ ?_ ?_ <;> simp

theorem pageWrite_of_rom_or_nil {s : State} {p : Nat} (off : PageOffset) (v : Byte)
    (h : s.cfg.kind p = .rom ∨ s.cfg.kind p = .nil) : pageWrite p off v s = s := by
  rcases h with h | h <;> simp [pageWrite, h]

theorem writeReaches_of_ram {s : State} {p : Nat} (off : PageOffset) (q : Nat) (h : s.cfg.kind p = .ram) :
    s.writeReaches p off q = true ↔ q = p := by
  simp [State.writeReaches, h]

theorem writeReaches_of_wur {s : State} {p shadow : Nat} {ro ins : Byte} (off : PageOffset) (q : Nat)
    (h : s.cfg.kind p = .wur ro ins shadow) (hshadow : s.cfg.kind shadow = .ram) :
    s.writeReaches p off q = true ↔
      q = shadow ∨ (q = p ∧ maskBit ins (subBlock off) = true ∧ maskBit ro (subBlock off) = false) := by
  simp [State.writeReaches, h, hshadow]

/-- Settles O11: the frame is `pageWrite_eq_setMem`, the bytes are those of `pageByte_pageWrite`. -/
theorem mwrStoresWhereThePageSays : Obligations.MwrStoresWhereThePageSays := by
  intro s a v hm p off k
  have hframe : (pageWrite p off v s).setReturned none = { s with mem := (pageWrite p off v s).mem, returned := none } :=
    congrArg (State.setReturned · none) (pageWrite_eq_setMem p off v s)
  refine ⟨fun hram => ⟨_, exec_mwr rfl, hframe, fun q r => ?_⟩, fun h => ?_,
    fun ro ins shadow hwur hshadow => ⟨_, exec_mwr rfl, hframe, fun q r => ?_⟩⟩
  · refine (pageByte_pageWrite s p q off r v hm).trans (if_congr ?_ rfl rfl)
    rw [writeReaches_of_ram off q hram, and_comm]
  · exact exec_mwr (pageWrite_of_rom_or_nil off v h)
  · refine (pageByte_pageWrite s p q off r v hm).trans (if_congr ?_ rfl rfl)
    rw [writeReaches_of_wur off q hwur hshadow]
    rfl

/-- A write reaches RAM, and an overlay's sub-block that is installed and not read-only. -/
theorem writeReaches_rom_eq_false {s : State} {q : Nat} {off : PageOffset} (p : Nat)
    (hq : s.cfg.kind q = .rom ∨ ∃ ro ins shadow, s.cfg.kind q = .wur ro ins shadow ∧
      (maskBit ro (subBlock off) = true ∨ maskBit ins (subBlock off) = false)) :
    s.writeReaches p off q = false := by
  have hnot : s.cfg.kind q ≠ .ram := by
    rcases hq with hq | ⟨ro, ins, shadow, hq, -⟩ <;> simp [hq]
  unfold State.writeReaches
  split <;> rename_i hp
  · exact decide_eq_false fun heq => hnot (heq ▸ hp)
  · rfl
  · rfl
  · rename_i ro ins shadow
    refine Bool.or_eq_false_iff.2 ⟨decide_eq_false fun ⟨heq, hram⟩ => hnot (heq ▸ hram), decide_eq_false ?_⟩
    rintro ⟨rfl, hins, hro⟩
    rcases hq with hq | ⟨ro', ins', shadow', hq, hmask⟩
    · simp [hp] at hq
    · obtain ⟨rfl, rfl, rfl⟩ := PageKind.wur.inj (hp.symm.trans hq)
      simp [hins, hro] at hmask

/-- Settles O14: no operation but MWR writes page memory (`onlyMwrAndTickStore`), and its write does not reach the byte. -/
theorem romBytesNeverChange : Obligations.RomBytesNeverChange := by
  intro i s t q r hm h hq
  by_cases hmwr : ∃ a v, i = .mwr a v
  · obtain ⟨a, v, rfl⟩ := hmwr
    cases (exec_mwr rfl).symm.trans h
    refine (pageByte_pageWrite s _ q _ r v hm).trans (if_neg ?_)
    rintro ⟨rfl, hreach⟩
    simp [writeReaches_rom_eq_false (resolve s a) hq] at hreach
  · obtain ⟨-, hmem, -⟩ := onlyMwrAndTickStore i s t h
    exact congrArg (Memory.read · (pageKey q r)) (hmem fun a v heq => hmwr ⟨a, v, heq⟩)

/-- Settles O12: the byte is stored under its page and offset alone, and any address that resolves to RAM reads what is stored. -/
theorem writtenByteIsReadBackThroughAnyBank : Obligations.WrittenByteIsReadBackThroughAnyBank := by
  intro s t a v hm hram h d b hb
  obtain ⟨hcfg, -⟩ := onlyMwrAndTickStore _ s t h
  rw [← hcfg] at hb
  refine ⟨_, exec_mrd (pageRead_of_stored _ (.inl hb)), congrArg some ?_⟩
  cases (exec_mwr rfl).symm.trans h
  refine (pageByte_pageWrite s _ _ _ (offsetOf b) v hm).trans (if_congr ?_ rfl rfl)
  rw [writeReaches_of_ram _ _ hram, and_comm]

/-! ### Runs of operations -/

/-- A run begins with its first operation. -/
theorem runOps_cons {i : Instr} {is : List Instr} {s t u : State} {bs : List Byte} (h : exec i s = .next t)
    (hrest : runOps is t = some (u, bs)) : runOps (i :: is) s = some (u, t.returned.toList ++ bs) := by
  simp [runOps, h, hrest]

/-- Two runs, one after the other. -/
theorem runOps_append {is js : List Instr} {s t u : State} {bs cs : List Byte} (h : runOps is s = some (t, bs))
    (hrest : runOps js t = some (u, cs)) : runOps (is ++ js) s = some (u, bs ++ cs) := by
  induction is generalizing s bs with
  | nil =>
    cases h
    exact hrest
  | cons i is ih =>
    simp only [runOps] at h
    split at h
    · rename_i v hv
      split at h
      · rename_i w ds hw
        cases h
        rw [List.cons_append, runOps_cons hv (ih hw), List.append_assoc]
      · cases h
    · cases h
    · cases h

/-! ### The ORG-0 bank (R100, R211, R439) -/

/-- The state after a GPP write of `w` that selects bank `k`. -/
def State.inBank (w : Byte) (k : Nat) (s : State) : State :=
  { s with gpp := w, dec := { s.dec with curBank := k }, returned := none }

/-- A GPP write on a wired H89 with a legal decoder selects the bank of R203 at once. -/
theorem exec_gppWr_h89 {s : State} {w : Byte} {k : Nat} (hv : s.cfg.variant = .h89) (hdec : s.DecoderLegal)
    (hwired : s.cfg.wired = true) (hk : pext w s.cfg.h89Org0Mask = k) : exec (.gppWr w) s = .next (s.inBank w k) := by
  obtain ⟨howner, -⟩ := wired_owners hwired
  have hbits : s.dec.gppBits = s.cfg.h89Org0Mask := by
    obtain ⟨-, hbits⟩ := hdec
    simp only [hv] at hbits
    exact hbits.1
  calc exec (.gppWr w) s = done (ioOut s.cfg.codes.gppPort w s) := rfl
    _ = done (gppOut w s) := by rw [ioOut_of_owner w howner, Nat.sub_self]; rfl
    _ = .next (s.inBank w k) := by
      simp [gppOut, decoderNotify, hv, hbits, hk, done, State.inBank, State.setGpp, State.setDec, State.setReturned]

/-- A write under ROM is stored in the shadow, and the read-only overlay keeps its byte (R89, R90). -/
theorem exec_mwr_under_rom {s : State} {a : Addr} {p shadow : Nat} {ro ins : Byte} (v : Byte) (hm : s.mem.wf = true)
    (hp : resolve s a = p) (hwur : s.cfg.kind p = .wur ro ins shadow) (hshadow : s.cfg.kind shadow = .ram)
    (hro : maskBit ro (subBlock (offsetOf a)) = true) :
    ∃ t, exec (.mwr a v) s = .next t ∧ t.cfg = s.cfg ∧ t.dec = s.dec ∧ t.returned = none ∧
      t.pageByte p (offsetOf a) = s.pageByte p (offsetOf a) ∧ t.pageByte shadow (offsetOf a) = v := by
  have hwrite : exec (.mwr a v) s = .next ((pageWrite p (offsetOf a) v s).setReturned none) := exec_mwr (by rw [hp])
  refine ⟨_, hwrite, by simp, by simp, rfl, romBytesNeverChange _ _ _ _ _ hm hwrite (.inr ⟨ro, ins, shadow, hwur, .inl hro⟩), ?_⟩
  exact (pageByte_pageWrite s p shadow _ _ v hm).trans
    (if_pos ⟨rfl, (writeReaches_of_wur _ _ hwur hshadow).2 (.inl rfl)⟩)

/-- Settles O13: bank 0 reads the overlay, which the write left alone, and bank 1 the shadow, which took it. -/
theorem writeUnderRomShowsInOrg0 : Obligations.WriteUnderRomShowsInOrg0 := by
  intro s a v w p shadow ro ins hm hv hdec hwired hbank hp hwur hshadow horg0 hins hro hselect
  have hresolve : resolve s a = p := by rw [resolve, hbank, hp]
  obtain ⟨t, hwrite, hcfg, hsame, hnone, hrom, hstored⟩ := exec_mwr_under_rom v hm hresolve hwur hshadow hro
  have hlegal : t.DecoderLegal := by
    unfold State.DecoderLegal
    rwa [hcfg, hsame]
  rw [← hcfg] at hv hwired hwur hshadow horg0 hselect
  have hoverlay : resolve t a = p := by
    rw [← hresolve, resolve, resolve, hcfg, hsame]
  have hreadRom : exec (.mrd a) t = .next (t.setReturned (some (s.pageByte p (offsetOf a)))) :=
    exec_mrd (by rw [hoverlay, pageRead_of_wur _ hwur, if_pos hins, hrom])
  have hswitch : exec (.gppWr w) (t.setReturned (some (s.pageByte p (offsetOf a)))) = .next (t.inBank w 1) :=
    exec_gppWr_h89 hv hlegal hwired hselect
  have hunder : resolve (t.inBank w 1) a = shadow := horg0
  have hreadOrg0 : exec (.mrd a) (t.inBank w 1) = .next ((t.inBank w 1).setReturned (some v)) :=
    exec_mrd (by rw [hunder, pageRead_of_stored (s := t.inBank w 1) _ (.inl hshadow)]; exact hstored)
  refine ⟨(t.inBank w 1).setReturned (some v),
    (runOps_cons hwrite (runOps_cons hreadRom (runOps_cons hswitch (runOps_cons hreadOrg0 rfl)))).trans ?_⟩
  rw [hnone]
  rfl

end Sys2Proof.Machine

namespace Sys2Proof.Machine

/-! ### The end of a command (R332) -/

/-- The link after a command ends: Error shows the latches, Busy is low. -/
theorem commandComplete_link (s : State) :
    (commandComplete s).link = { s.link with busy := false, error := s.link.error || s.z47.err.any } := by
  unfold commandComplete
  dsimp only
  split <;> rename_i herr <;> rw [State.setZ47_z47] at herr <;> simp [herr]

/-- The end of a command as one update, whatever host there is: what the host's handler may write is the card and the request line. -/
theorem commandComplete_eq (s : State) :
    commandComplete s = { s with
      z47 := { s.z47 with ctrlState := .none, statePosition := 0, linkState := .awaitingReadyState, countDown := settleCycles }
      link := { s.link with busy := false, error := s.link.error || s.z47.err.any }
      hif := (commandComplete s).hif, pending := (commandComplete s).pending
      cpu := (commandComplete s).cpu, log := (commandComplete s).log } := by
  refine State.eq_of_fields ?_ ?_ ?_ ?_ rfl (commandComplete_link s) rfl (commandComplete_z47 s) ?_ rfl rfl ?_ ?_ ?_ <;> simp

theorem settleIrq_setZ47 (s : State) (z : Z47) : settleIrq (s.setZ47 z) = (settleIrq s).setZ47 z := by
  unfold settleIrq
  rw [apply_ite (State.setZ47 · z), apply_ite (State.setZ47 · z)]
  rfl

theorem settleIrq_setReturned (s : State) (r : Option Byte) : settleIrq (s.setReturned r) = (settleIrq s).setReturned r := by
  unfold settleIrq
  rw [apply_ite (State.setReturned · r), apply_ite (State.setReturned · r)]
  rfl

section Card
variable {s : State} (hlevel : s.cfg.z47IntLevel < s.cfg.intLevels.val) (hcard : s.cfg.host = some .card)
include hlevel hcard

/-- The registered card settles its request when Busy changes (R295). -/
theorem setBusy_of_card (b : Bool) : setBusy b s = settleIrq (s.setLink { s.link with busy := b }) :=
  hostSignal_card (s.setLink _) hlevel hcard

/-- Error is no part of the card's condition: while its request is current it does not act on it. -/
theorem setError_of_current (b : Bool) (hcurrent : s.RequestCurrent) : setError b s = s.setLink { s.link with error := b } :=
  calc setError b s = settleIrq (s.setLink { s.link with error := b }) := hostSignal_card (s.setLink _) hlevel hcard
    _ = s.setLink { s.link with error := b } := settleIrq_of_current (s.setLink _) (hcurrent hcard).symm

/-- The latches show on Error before a command ends (R332). -/
theorem raiseError_of_current (hcurrent : s.RequestCurrent) :
    (if s.z47.err.any then setError true s else s) = s.setLink { s.link with error := s.link.error || s.z47.err.any } := by
  cases s.z47.err.any with
  | true => simp [setError_of_current hlevel hcard true hcurrent]
  | false => simp [State.setLink]

/-- The end of a command as one update: Busy is the one signal the card acts on. -/
theorem commandComplete_eq_settleIrq (hcurrent : s.RequestCurrent) :
    commandComplete s = settleIrq { s with
      z47 := { s.z47 with ctrlState := .none, statePosition := 0, linkState := .awaitingReadyState, countDown := settleCycles }
      link := { s.link with busy := false, error := s.link.error || s.z47.err.any } } := by
  have hraise := raiseError_of_current
    (s := s.setZ47 { s.z47 with ctrlState := .none, statePosition := 0, linkState := .awaitingReadyState }) hlevel hcard hcurrent
  unfold commandComplete
  dsimp only
  rw [hraise, setBusy_of_card (by simpa using hlevel) (by simpa using hcard),
    ← settleIrq_setZ47]
  refine congrArg settleIrq ?_
  simp [State.setZ47, State.setLink]

end Card

/-! ### The link step of a command in its data phase (R320, R321, R328) -/

/-- A notification with no countdown left runs the link step. -/
theorem exec_tick_of_expired {s : State} (c : BitVec 16) (hclocked : s.cfg.clocked = true) (hzero : s.z47.countDown = 0) :
    exec (.tick c) s = .next ((linkStep s).setReturned none) := by
  have hsame : s.setZ47 { s.z47 with countDown := 0 } = s := by rw [← hzero]; rfl
  calc exec (.tick c) s = done (notification c.toNat s) := congrArg done (if_pos hclocked)
    _ = done (linkStep s) := by rw [notification, if_neg (by omega), hsame]

/-- In Ready a running command goes on to its next position. -/
theorem linkStep_of_running {s : State} (hlink : s.z47.linkState = .ready) (hc : s.z47.ctrlState ≠ .none) :
    linkStep s = nextPosition s := by
  simp [linkStep, controllerDispatch, hlink, hc]

/-- The state once a write has stored the byte received and moved its cursor on (R341). -/
def State.afterStore (s : State) : State :=
  (putImageByte s.z47.drive s.z47.offset s.z47.rxByte s.atNextPosition).advanceTransfer

theorem afterStore_z47 (s : State) :
    s.afterStore.z47 = { s.z47 with
      rxPending := false, statePosition := s.z47.statePosition + 1
      offset := s.z47.offset + 1, bytesToTransfer := s.z47.bytesToTransfer - 1 } := rfl

/-- A stored byte changes the images and the controller alone. -/
theorem afterStore_eq (s : State) : s.afterStore = { s with media := s.afterStore.media, z47 := s.afterStore.z47 } := rfl

/-- The byte received goes to the image at the cursor, and to no other place (R105). -/
theorem imageByte_afterStore {s : State} (hs : s.Canonical) (hdrive : s.z47.drive.toNat < s.cfg.numDrives) (d : BitVec 2) (o : Nat) :
    imageByte s.afterStore d o = if d = s.z47.drive ∧ o = s.z47.offset then s.z47.rxByte else imageByte s d o := by
  obtain ⟨-, himages, hlength⟩ := hs
  exact imageByte_putImageByte s.atNextPosition _ d _ o _ himages (by rwa [← hlength] at hdrive)

section Writing
variable {s : State} (hlink : s.z47.linkState = .ready) (hc : s.z47.ctrlState = .writeSectorsBuffered)
  (hpos : 3 ≤ s.z47.statePosition)
include hlink hc hpos

/-- A data-phase step of a write stores the byte received, and acts as the bytes left ask for (R341). -/
theorem linkStep_of_writing :
    linkStep s = applyAction (s.afterStore, if s.afterStore.z47.bytesToTransfer = 0 then .complete else .req) := by
  rw [linkStep_of_running hlink (by simp [hc]), nextPosition_eq, hc, handler, wsbHandler, if_neg (by omega), if_neg (by omega),
    if_neg (by omega)]
  rfl

/-- With more bytes left the next one is asked for. -/
theorem linkStep_of_writing_more (hmore : 1 < s.z47.bytesToTransfer) :
    linkStep s = s.afterStore.setZ47 { s.afterStore.z47 with linkState := .awaitingToReqReceive } := by
  rw [linkStep_of_writing hlink hc hpos, if_neg (by rw [afterStore_z47]; exact Nat.sub_ne_zero_of_lt hmore)]
  rfl

/-- With the last byte the command ends. -/
theorem linkStep_of_writing_last (hlast : s.z47.bytesToTransfer = 1) : linkStep s = commandComplete s.afterStore := by
  rw [linkStep_of_writing hlink hc hpos, if_pos (by rw [afterStore_z47, hlast])]
  rfl

/-- What a data-phase step does to the images is the stored byte. -/
theorem imageByte_linkStep_of_writing (hs : s.Canonical) (hdrive : s.z47.drive.toNat < s.cfg.numDrives) (d : BitVec 2) (o : Nat) :
    imageByte (linkStep s) d o = if d = s.z47.drive ∧ o = s.z47.offset then s.z47.rxByte else imageByte s d o := by
  rw [← imageByte_afterStore hs hdrive, linkStep_of_writing hlink hc hpos]
  simp [imageByte]

end Writing

/-- Settles O47: the stored byte is `imageByte_linkStep_of_writing`; what follows it is one more request, or the end of the command. -/
theorem writeStoresTheNextImageByte : Obligations.WriteStoresTheNextImageByte := by
  intro s c hclocked hzero hlink hc hpos hbytes hcanonical hdrive
  refine ⟨_, exec_tick_of_expired c hclocked hzero, imageByte_linkStep_of_writing hlink hc hpos hcanonical hdrive, fun hmore => ?_,
    fun hlast => ?_, fun hlast hlevel hcard hcurrent => ?_⟩
  · rw [linkStep_of_writing_more hlink hc hpos hmore]
    rfl
  · have hleft : s.z47.bytesToTransfer - 1 = 0 := by omega
    rw [linkStep_of_writing_last hlink hc hpos hlast]
    refine (congrArg (State.setReturned · none) (commandComplete_eq s.afterStore)).trans ?_
    simp only [afterStore_z47, hleft, State.setReturned_media, commandComplete_frame]
    rfl
  · rw [linkStep_of_writing_last hlink hc hpos hlast]
    refine (congrArg (State.setReturned · none) (commandComplete_eq_settleIrq (s := s.afterStore) hlevel hcard hcurrent)).trans ?_
    rw [← settleIrq_setReturned]
    refine congrArg settleIrq (State.eq_of_fields rfl rfl rfl rfl rfl rfl rfl ?_ ?_ rfl rfl rfl rfl rfl)
    · exact (commandComplete_z47 s.afterStore).symm
    · simp

end Sys2Proof.Machine

namespace Sys2Proof.Machine

/-! ### A byte from the host to the image (R323, R341, R345) -/

/-- The registrations of R434, each by itself. -/
theorem wired_iff {c : Config} :
    c.wired = true ↔ c.owner c.codes.gppPort = some ⟨.gpp, c.codes.gppPort, 1⟩ ∧
      c.owner c.codes.z47PortBase = some ⟨.hif, c.codes.z47PortBase, 2⟩ ∧
      c.owner c.codes.z47DataPort = some ⟨.hif, c.codes.z47PortBase, 2⟩ ∧
      c.host = some .card ∧ c.device = some .controller ∧ c.clocked = true := by
  simp [Config.wired, and_assoc]

/-- Every operation keeps the byte stores canonical. -/
theorem exec_keeps_canonical {i : Instr} {s t : State} (hs : s.Canonical) (h : exec i s = .next t) : t.Canonical := by
  obtain ⟨u, r, he, rfl⟩ := exec_effect h
  exact show u.Canonical from he.canonical hs

/-- A notification returns no byte. -/
theorem exec_tick_returned {c : BitVec 16} {s t : State} (h : exec (.tick c) s = .next t) : t.returned = none := by
  cases h
  rfl

/-- The data port is the card's second (R9 (d), R434). -/
theorem exec_z47Dout_of_wired {s : State} (v : Byte) (hok : s.cfg.ok = true) (hwired : s.cfg.wired = true) :
    exec (.z47Dout v) s = .next ((cardDataOut v s).setReturned none) := by
  obtain ⟨-, -, howner, -⟩ := wired_iff.1 hwired
  obtain ⟨-, -, -, hports, -⟩ := config_ok_iff.1 hok
  obtain ⟨hbase, -⟩ := portsOk_iff.1 hports
  have hoff : s.cfg.codes.z47DataPort.toNat - s.cfg.codes.z47PortBase.toNat = 1 := by
    unfold Codes.z47DataPort
    bv_omega
  calc exec (.z47Dout v) s = done (ioOut s.cfg.codes.z47DataPort v s) := rfl
    _ = done (cardDataOut v s) := by rw [ioOut_of_owner v howner, hoff]; rfl

/-- The controller asks for a byte by raising DTR (R321). -/
theorem linkStep_of_asking {s : State} (hlink : s.z47.linkState = .awaitingToReqReceive) :
    linkStep s = (setDtr true s).setZ47 { s.z47 with linkState := .awaitingToReceive } := by
  simp [linkStep, hlink]

/-- A waiting controller takes the byte the host writes, and is Ready with it (R293, R326). -/
theorem cardDataOut_z47_of_waiting {s : State} (v : Byte) (hdevice : s.cfg.device = some .controller)
    (hlink : s.z47.linkState = .awaitingToReceive) :
    (cardDataOut v s).z47 = { s.z47 with rxByte := v, rxPending := true, linkState := .ready } := by
  simp [cardDataOut, dtakPulse, setDtak, deviceSignal, onDtak, hdevice, hlink]

/-- A write in its data phase that asks for a byte. -/
structure State.AsksForByte (s : State) : Prop where
  ok : s.cfg.ok = true
  wired : s.cfg.wired = true
  canonical : s.Canonical
  drive_lt : s.z47.drive.toNat < s.cfg.numDrives
  countDown : s.z47.countDown = 0
  asking : s.z47.linkState = .awaitingToReqReceive
  writing : s.z47.ctrlState = .writeSectorsBuffered
  position : 3 ≤ s.z47.statePosition

/-- A notification and a data write hand the controller one byte. -/
theorem runOps_receiveByte {s : State} (hs : s.AsksForByte) (c : BitVec 16) (v : Byte) :
    ∃ t, runOps [.tick c, .z47Dout v] s = some (t, []) ∧ t.cfg = s.cfg ∧ t.media = s.media ∧ t.Canonical ∧
      t.z47 = { s.z47 with rxByte := v, rxPending := true, linkState := .ready } := by
  obtain ⟨-, -, -, -, hdevice, hclocked⟩ := wired_iff.1 hs.wired
  have hask := exec_tick_of_expired c hclocked hs.countDown
  rw [linkStep_of_asking hs.asking] at hask
  have htake := exec_z47Dout_of_wired (s := ((setDtr true s).setZ47 { s.z47 with linkState := .awaitingToReceive }).setReturned none)
    v (by simpa using hs.ok) (by simpa using hs.wired)
  refine ⟨_, runOps_cons hask (runOps_cons htake rfl), by simp, by simp,
    exec_keeps_canonical (exec_keeps_canonical hs.canonical hask) htake, ?_⟩
  exact cardDataOut_z47_of_waiting v (by simpa using hdevice) rfl

/-- One round of the handshake stores one byte, and with more to come asks for the next. -/
theorem runOps_writeByteOps {s : State} (hs : s.AsksForByte) (hbytes : 1 ≤ s.z47.bytesToTransfer) (c1 c2 : BitVec 16) (v : Byte) :
    ∃ t, runOps (writeByteOps c1 c2 v) s = some (t, []) ∧
      (∀ d o, imageByte t d o = if d = s.z47.drive ∧ o = s.z47.offset then v else imageByte s d o) ∧
      t.z47.drive = s.z47.drive ∧ t.z47.offset = s.z47.offset + 1 ∧ t.z47.bytesToTransfer = s.z47.bytesToTransfer - 1 ∧
      (1 < s.z47.bytesToTransfer → t.AsksForByte) := by
  obtain ⟨u, hreceived, hcfg, hmedia, hcanonical, hz⟩ := runOps_receiveByte hs c1 v
  have hsame (d : BitVec 2) (o : Nat) : imageByte u d o = imageByte s d o := by rw [imageByte, imageByte, hmedia]
  obtain ⟨-, -, -, -, -, hclocked⟩ := wired_iff.1 hs.wired
  obtain ⟨t, hstore, himage, hmore, hlast, -⟩ := writeStoresTheNextImageByte u c2 (by rw [hcfg]; exact hclocked)
    (by rw [hz]; exact hs.countDown) (by rw [hz]) (by rw [hz]; exact hs.writing) (by rw [hz]; exact hs.position)
    (by rw [hz]; exact hbytes) hcanonical (by rw [hz, hcfg]; exact hs.drive_lt)
  have hrun : runOps [.tick c2] u = some (t, []) := by
    have h := runOps_cons hstore (rfl : runOps [] t = some (t, []))
    rwa [exec_tick_returned hstore] at h
  refine ⟨t, runOps_append hreceived hrun, fun d o => ?_, ?_⟩
  · rw [himage, hsame, hz]
  rw [hz] at hmore hlast
  rcases Nat.eq_or_lt_of_le hbytes with hone | hlt
  · have ht := congrArg State.z47 (hlast hone.symm)
    simp only at ht
    rw [ht]
    exact ⟨rfl, rfl, (Nat.sub_eq_zero_of_le hone.ge).symm, fun h => absurd hone h.ne⟩
  · have ht := congrArg State.z47 (hmore hlt)
    simp only at ht
    obtain ⟨htcfg, -⟩ := onlyMwrAndTickStore _ _ _ hstore
    rw [hcfg] at htcfg
    refine ⟨by rw [ht], by rw [ht], by rw [ht], fun _ => ?_⟩
    exact ⟨by rw [htcfg]; exact hs.ok, by rw [htcfg]; exact hs.wired, exec_keeps_canonical hcanonical hstore,
      by rw [ht, htcfg]; exact hs.drive_lt, by rw [ht]; exact hs.countDown, by rw [ht], by rw [ht]; exact hs.writing,
      by rw [ht]; exact Nat.le_succ_of_le hs.position⟩

/-- The bytes from place `a` on, one more at their head: the head at `a`, the others from the next place on. -/
theorem bytesFrom_cons (P : Prop) [Decidable P] (v x : Byte) (vs : List Byte) (a o : Nat) :
    (if P ∧ a + 1 ≤ o ∧ o < a + 1 + vs.length then vs.getD (o - (a + 1)) 0#8 else if P ∧ o = a then v else x) =
      if P ∧ a ≤ o ∧ o < a + (v :: vs).length then (v :: vs).getD (o - a) 0#8 else x := by
  by_cases hP : P
  · rcases Nat.lt_trichotomy o a with hlt | rfl | hgt
    · rw [if_neg (by omega), if_neg (by omega), if_neg (by omega)]
    · simp [hP]
    · obtain ⟨k, rfl⟩ := Nat.exists_eq_add_of_lt hgt
      have hk : a + k + 1 < a + 1 + vs.length ↔ a + k + 1 < a + (vs.length + 1) := by omega
      simp [hP, hk, show a + k + 1 - a = k + 1 by omega, show a + k + 1 - (a + 1) = k by omega, show a + 1 ≤ a + k + 1 by omega,
        show a ≤ a + k + 1 by omega, show ¬a + k + 1 = a by omega]
  · simp [hP]

/-- The rounds of a write, one for each byte. A write that has no byte to store need not ask for one, so that the last byte may end the
command. -/
theorem runOps_writeBytes (vs : List Byte) (c1 c2 : BitVec 16) {s : State} (hs : vs ≠ [] → s.AsksForByte)
    (hlength : vs.length ≤ s.z47.bytesToTransfer) :
    ∃ t, runOps (vs.flatMap (writeByteOps c1 c2)) s = some (t, []) ∧
      (∀ d o, imageByte t d o =
        if d = s.z47.drive ∧ s.z47.offset ≤ o ∧ o < s.z47.offset + vs.length then vs.getD (o - s.z47.offset) 0#8
        else imageByte s d o) ∧
      t.z47.offset = s.z47.offset + vs.length ∧ t.z47.bytesToTransfer = s.z47.bytesToTransfer - vs.length := by
  induction vs generalizing s with
  | nil => exact ⟨s, rfl, fun d o => (if_neg fun ⟨_, hlow, hhigh⟩ => Nat.not_lt.2 hlow hhigh).symm, rfl, rfl⟩
  | cons v vs ih =>
    rw [List.length_cons] at hlength
    obtain ⟨u, hbyte, himage, hdrive, hoffset, hleft, hasks⟩ := runOps_writeByteOps (hs (by simp)) (by omega) c1 c2 v
    have hnext : vs ≠ [] → u.AsksForByte := fun hne => hasks (by have := List.length_pos_of_ne_nil hne; omega)
    obtain ⟨t, hbytes, hrest, htoffset, htleft⟩ := ih hnext (by omega)
    refine ⟨t, runOps_append hbyte hbytes, fun d o => ?_, ?_, ?_⟩
    · rw [hrest, himage, hdrive, hoffset]
      exact bytesFrom_cons _ v _ vs _ o
    · rw [htoffset, hoffset, List.length_cons]
      omega
    · rw [htleft, hleft, List.length_cons]
      omega

/-- Settles O54: the state asks for a byte, and each byte is one round of `runOps_writeBytes`. -/
theorem writeStoresTheBytesInOrder : Obligations.WriteStoresTheBytesInOrder :=
  fun vs _ c1 c2 hok hwired hcanonical hdrive hzero hlink hc hpos hlength =>
    runOps_writeBytes vs c1 c2 (fun _ => ⟨hok, hwired, hcanonical, hdrive, hzero, hlink, hc, hpos⟩) hlength

end Sys2Proof.Machine

/-! The encodings (30_encoding.md): the words of the four formats field by field, the round trip of the decoder and the encoder, the words
that a step refuses, and what the port views, the status bytes and the command bytes do. -/

namespace Sys2Proof.Machine

/-! ### The operations of the bus by their port (R125, R126) -/

theorem plainPort_iff {c : Codes} {p : Port} :
    c.plainPort p = true ↔ p ≠ c.gppPort ∧ p ≠ c.z47PortBase ∧ p ≠ c.z47DataPort := by
  simp [Codes.plainPort, and_assoc]

/-- R9 (d) and (f) together. -/
theorem codes_ok_iff {c : Codes} : c.ok = true ↔ c.portsOk = true ∧ c.commandsOk = true := by simp [Codes.ok]

/-- The two ports of the host interface are distinct: their numbers differ by one. -/
theorem z47DataPort_ne_z47PortBase (c : Codes) : c.z47DataPort ≠ c.z47PortBase := by
  unfold Codes.z47DataPort
  bv_omega

section Names
variable {c : Codes}

theorem nameIn_of_plain {p : Port} (h : c.plainPort p = true) : nameIn c p = .inp p := by
  obtain ⟨hgpp, hbase, hdata⟩ := plainPort_iff.1 h
  rw [nameIn, if_neg hgpp, if_neg hbase, if_neg hdata]

theorem nameOut_of_plain {p : Port} (v : Byte) (h : c.plainPort p = true) : nameOut c p v = .out p v := by
  obtain ⟨hgpp, hbase, hdata⟩ := plainPort_iff.1 h
  rw [nameOut, if_neg hgpp, if_neg hbase, if_neg hdata]

theorem nameIn_gppPort : nameIn c c.gppPort = .gppRd := if_pos rfl

theorem nameOut_gppPort (v : Byte) : nameOut c c.gppPort v = .gppWr v := if_pos rfl

/-- An IN is named by a port view, or is an IN at a plain port. -/
theorem nameIn_wf (p : Port) : (nameIn c p).wf c = true := by
  unfold nameIn
  split_ifs with hgpp hbase hdata
  · rfl
  · rfl
  · rfl
  · exact plainPort_iff.2 ⟨hgpp, hbase, hdata⟩

/-- An OUT is named by a port view, or is an OUT at a plain port. -/
theorem nameOut_wf (p : Port) (v : Byte) : (nameOut c p v).wf c = true := by
  unfold nameOut
  split_ifs with hgpp hbase hdata
  · rfl
  · rfl
  · rfl
  · exact plainPort_iff.2 ⟨hgpp, hbase, hdata⟩

section LegalPorts
variable (hports : c.portsOk = true)
include hports

theorem z47DataPort_ne_gppPort : c.z47DataPort ≠ c.gppPort := by
  obtain ⟨-, -, hdata⟩ := portsOk_iff.1 hports
  exact hdata.symm

theorem nameIn_z47PortBase : nameIn c c.z47PortBase = .z47Stat := by
  obtain ⟨-, hgpp, -⟩ := portsOk_iff.1 hports
  rw [nameIn, if_neg hgpp.symm, if_pos rfl]

theorem nameOut_z47PortBase (v : Byte) : nameOut c c.z47PortBase v = .z47Cmd v := by
  obtain ⟨-, hgpp, -⟩ := portsOk_iff.1 hports
  rw [nameOut, if_neg hgpp.symm, if_pos rfl]

theorem nameIn_z47DataPort : nameIn c c.z47DataPort = .z47Din := by
  rw [nameIn, if_neg (z47DataPort_ne_gppPort hports), if_neg (z47DataPort_ne_z47PortBase c), if_pos rfl]

theorem nameOut_z47DataPort (v : Byte) : nameOut c c.z47DataPort v = .z47Dout v := by
  rw [nameOut, if_neg (z47DataPort_ne_gppPort hports), if_neg (z47DataPort_ne_z47PortBase c), if_pos rfl]

end LegalPorts
end Names

/-! ### Format T by kind (R121 to R124) -/

section Transactions
variable (c : Codes) (a : BitVec 16) (hi d : Byte)

theorem decode_tWord_mrd : decode c (tWord 0#3 a d) = .ok (.mrd a) := by simp [tWord, decode, decodeT]
theorem decode_tWord_mwr : decode c (tWord 1#3 a d) = .ok (.mwr a d) := by simp [tWord, decode, decodeT]
theorem decode_tWord_inta : decode c (tWord 2#3 a d) = .ok (.inta a) := by simp [tWord, decode, decodeT]
theorem decode_tWord_tick : decode c (tWord 5#3 a d) = .ok (.tick a) := by simp [tWord, decode, decodeT]
theorem decode_tWord_reset : decode c (tWord 6#3 a d) = .ok .reset := by simp [tWord, decode, decodeT]

theorem decode_tWord_reserved : decode c (tWord 7#3 a d) = .error .reservedTransaction := by simp [tWord, decode, decodeT]

/-- An IN is named by the low byte of its address field alone (R123). -/
theorem decode_tWord_in {p : Port} {i : Instr} (hname : nameIn c p = i) : decode c (tWord 3#3 (hi ++ p) d) = .ok i := by
  simp [tWord, decode, decodeT, tPort_append _ _ hi p d rfl, hname]

/-- An OUT is named by the low byte of its address field alone (R123). -/
theorem decode_tWord_out {p : Port} {i : Instr} (hname : nameOut c p d = i) : decode c (tWord 4#3 (hi ++ p) d) = .ok i := by
  simp [tWord, decode, decodeT, tPort_append _ _ hi p d rfl, hname]

end Transactions

/-- Settles O3: the kinds by their own lemma, IN and OUT by the name that their port gives. -/
theorem transactionWordsDecodeByKind : Obligations.TransactionWordsDecodeByKind := by
  intro c a hi p d
  refine ⟨decode_tWord_mrd c a d, decode_tWord_mwr c a d, decode_tWord_inta c a d, fun hplain => ?_,
    decode_tWord_in c hi d nameIn_gppPort, decode_tWord_out c hi d (nameOut_gppPort d), fun hok => ?_,
    decode_tWord_tick c a d, decode_tWord_reset c a d, decode_tWord_reserved c a d⟩
  · exact ⟨decode_tWord_in c hi d (nameIn_of_plain hplain), decode_tWord_out c hi d (nameOut_of_plain d hplain)⟩
  · obtain ⟨hports, -⟩ := codes_ok_iff.1 hok
    exact ⟨decode_tWord_in c hi d (nameIn_z47PortBase hports), decode_tWord_out c hi d (nameOut_z47PortBase hports d),
      decode_tWord_in c hi d (nameIn_z47DataPort hports), decode_tWord_out c hi d (nameOut_z47DataPort hports d)⟩

/-! ### Formats LK and IQ by code (R127, R129) -/

section Lines
variable (c : Codes) (d : Byte) (x : BitVec 1) (l : BitVec 3)

theorem decode_lkWord_sendHost : decode c (lkWord 0#4 d) = .ok (.sendHost d) := by simp [lkWord, decode, decodeLk]
theorem decode_lkWord_sendDrive : decode c (lkWord 1#4 d) = .ok (.sendDrive d) := by simp [lkWord, decode, decodeLk]
theorem decode_lkWord_readByHost : decode c (lkWord 2#4 d) = .ok .readByHost := by simp [lkWord, decode, decodeLk]
theorem decode_lkWord_readByDrive : decode c (lkWord 3#4 d) = .ok .readByDrive := by simp [lkWord, decode, decodeLk]
theorem decode_lkWord_setBusy : decode c (lkWord 4#4 d) = .ok (.setBusy (d.getLsbD 0)) := by simp [lkWord, decode, decodeLk]
theorem decode_lkWord_setDtr : decode c (lkWord 5#4 d) = .ok (.setDtr (d.getLsbD 0)) := by simp [lkWord, decode, decodeLk]
theorem decode_lkWord_setDdout : decode c (lkWord 6#4 d) = .ok (.setDdout (d.getLsbD 0)) := by simp [lkWord, decode, decodeLk]
theorem decode_lkWord_setError : decode c (lkWord 7#4 d) = .ok (.setError (d.getLsbD 0)) := by simp [lkWord, decode, decodeLk]
theorem decode_lkWord_setMr : decode c (lkWord 8#4 d) = .ok (.setMr (d.getLsbD 0)) := by simp [lkWord, decode, decodeLk]
theorem decode_lkWord_setDtak : decode c (lkWord 9#4 d) = .ok (.setDtak (d.getLsbD 0)) := by simp [lkWord, decode, decodeLk]

theorem decode_iq_raiseInt : decode c (.iq (0#2 ++ x ++ l)) = .ok (.raiseInt l) := by simp [decode, decodeIq]
theorem decode_iq_lowerInt : decode c (.iq (1#2 ++ x ++ l)) = .ok (.lowerInt l) := by simp [decode, decodeIq]
theorem decode_iq_raiseNmi : decode c (.iq (2#2 ++ x ++ l)) = .ok .raiseNmi := by simp [decode, decodeIq]

end Lines

/-- Settles O4, by the lemma of each code. -/
theorem ignoredLinkAndLineBits : Obligations.IgnoredLinkAndLineBits := fun c data x l =>
  ⟨decode_lkWord_readByHost c data, decode_lkWord_readByDrive c data, decode_lkWord_setBusy c data, decode_lkWord_setDtr c data,
   decode_lkWord_setDdout c data, decode_lkWord_setError c data, decode_lkWord_setMr c data, decode_lkWord_setDtak c data,
   decode_iq_raiseInt c x l, decode_iq_lowerInt c x l, decode_iq_raiseNmi c x l⟩

/-- The level of a signal-set operation is bit 0 of the data its canonical word carries. -/
theorem level_of_lkBitWord (b : Bool) : (0#7 ++ BitVec.ofBool b).getLsbD 0 = b := by
  cases b <;> rfl

/-- A code that reads bit 0 of its data reads back the level that its canonical word was given. -/
theorem decode_lkBitWord {c : Codes} {k : BitVec 4} {f : Bool → Instr} (hk : ∀ d, decode c (lkWord k d) = .ok (f (d.getLsbD 0)))
    (b : Bool) : decode c (lkBitWord k b) = .ok (f b) := by
  rw [lkBitWord, hk, level_of_lkBitWord]

/-! ### Format ZC by byte (R130, R333) -/

theorem noCommand_iff {c : Codes} {b : Byte} : c.noCommand b = true ↔ b ≠ cmdRsb ∧ b ≠ c.cmdWsb ∧ b ≠ c.cmdRcs := by
  simp [Codes.noCommand, and_assoc]

section Commands
variable {c : Codes}

theorem decodeZc_cmdRsb : decodeZc c cmdRsb = .z47Rsb := if_pos rfl

theorem decodeZc_of_noCommand {b : Byte} (h : c.noCommand b = true) : decodeZc c b = .z47Invalid b := by
  obtain ⟨hrsb, hwsb, hrcs⟩ := noCommand_iff.1 h
  rw [decodeZc, if_neg hrsb, if_neg hwsb, if_neg hrcs]

/-- A byte is one of the three commands, or is none of them. -/
theorem decodeZc_wf (b : Byte) : (decodeZc c b).wf c = true := by
  unfold decodeZc
  split_ifs with hrsb hwsb hrcs
  · rfl
  · rfl
  · rfl
  · exact noCommand_iff.2 ⟨hrsb, hwsb, hrcs⟩

section LegalCommands
variable (hcommands : c.commandsOk = true)
include hcommands

theorem decodeZc_cmdWsb : decodeZc c c.cmdWsb = .z47Wsb := by
  obtain ⟨hwsb, -, -⟩ := commandsOk_iff.1 hcommands
  rw [decodeZc, if_neg hwsb, if_pos rfl]

theorem decodeZc_cmdRcs : decodeZc c c.cmdRcs = .z47Rcs := by
  obtain ⟨-, hrcs, hdistinct⟩ := commandsOk_iff.1 hcommands
  rw [decodeZc, if_neg hrcs, if_neg hdistinct.symm, if_pos rfl]

end LegalCommands
end Commands

/-! ### The round trip -/

/-- Settles O1, operation by operation: each canonical word is one of the words above, its ignored fields zero. -/
theorem decodeEncodeAgree : Obligations.DecodeEncodeAgree := by
  intro c hok i hwf
  obtain ⟨hports, hcommands⟩ := codes_ok_iff.1 hok
  cases i with
  | mrd a => exact decode_tWord_mrd c a _
  | mwr a v => exact decode_tWord_mwr c a v
  | inta a => exact decode_tWord_inta c a _
  | inp p => exact decode_tWord_in c _ _ (nameIn_of_plain hwf)
  | out p v => exact decode_tWord_out c _ _ (nameOut_of_plain v hwf)
  | tick n => exact decode_tWord_tick c n _
  | reset => exact decode_tWord_reset c _ _
  | gppWr v => exact decode_tWord_out c _ _ (nameOut_gppPort v)
  | gppRd => exact decode_tWord_in c _ _ nameIn_gppPort
  | z47Stat => exact decode_tWord_in c _ _ (nameIn_z47PortBase hports)
  | z47Cmd v => exact decode_tWord_out c _ _ (nameOut_z47PortBase hports v)
  | z47Din => exact decode_tWord_in c _ _ (nameIn_z47DataPort hports)
  | z47Dout v => exact decode_tWord_out c _ _ (nameOut_z47DataPort hports v)
  | sendHost v => exact decode_lkWord_sendHost c v
  | sendDrive v => exact decode_lkWord_sendDrive c v
  | readByHost => exact decode_lkWord_readByHost c _
  | readByDrive => exact decode_lkWord_readByDrive c _
  | setBusy b => exact decode_lkBitWord (decode_lkWord_setBusy c) b
  | setDtr b => exact decode_lkBitWord (decode_lkWord_setDtr c) b
  | setDdout b => exact decode_lkBitWord (decode_lkWord_setDdout c) b
  | setError b => exact decode_lkBitWord (decode_lkWord_setError c) b
  | setMr b => exact decode_lkBitWord (decode_lkWord_setMr c) b
  | setDtak b => exact decode_lkBitWord (decode_lkWord_setDtak c) b
  | raiseInt l => exact decode_iq_raiseInt c _ l
  | lowerInt l => exact decode_iq_lowerInt c _ l
  | raiseNmi => exact decode_iq_raiseNmi c _ _
  | z47Rsb => exact congrArg Except.ok decodeZc_cmdRsb
  | z47Wsb => exact congrArg Except.ok (decodeZc_cmdWsb hcommands)
  | z47Rcs => exact congrArg Except.ok (decodeZc_cmdRcs hcommands)
  | z47Invalid b => exact congrArg Except.ok (decodeZc_of_noCommand hwf)

theorem decodeT_wf {c : Codes} {w : BitVec 27} {i : Instr} (h : decodeT c w = .ok i) : i.wf c = true := by
  unfold decodeT at h
  split at h <;> cases h
  · rfl
  · rfl
  · rfl
  · exact nameIn_wf _
  · exact nameOut_wf _ _
  · rfl
  · rfl

/-- An LK word names no port and no command byte, so every spelling is its own. -/
theorem decodeLk_wf (c : Codes) {w : BitVec 12} {i : Instr} (h : decodeLk w = .ok i) : i.wf c = true := by
  unfold decodeLk at h
  split at h <;> cases h <;> rfl

/-- An IQ word names no port and no command byte, so every spelling is its own. -/
theorem decodeIq_wf (c : Codes) {w : BitVec 6} {i : Instr} (h : decodeIq w = .ok i) : i.wf c = true := by
  unfold decodeIq at h
  split at h <;> cases h <;> rfl

theorem decode_wf {c : Codes} {w : OpWord} {i : Instr} (h : decode c w = .ok i) : i.wf c = true := by
  cases w with
  | t v => exact decodeT_wf h
  | lk v => exact decodeLk_wf c h
  | iq v => exact decodeIq_wf c h
  | zc b =>
    cases h
    exact decodeZc_wf b

/-- Settles O2: each format decodes to its own spellings, and those are what the round trip covers. -/
theorem decodedOperationIsWellFormed : Obligations.DecodedOperationIsWellFormed := fun c _ i h =>
  ⟨decode_wf h, fun hok => decodeEncodeAgree c hok i (decode_wf h)⟩

/-! ### The words that a step refuses (R142, R400) -/

theorem decodeT_error_iff {c : Codes} {w : BitVec 27} : (∃ e, decodeT c w = .error e) ↔ tKind w = 7#3 := by
  have hfield := (tKind w).isLt
  rw [← BitVec.toNat_inj]
  unfold decodeT
  generalize (tKind w).toNat = n at hfield ⊢
  interval_cases n <;> simp

theorem decodeLk_error_iff {w : BitVec 12} : (∃ e, decodeLk w = .error e) ↔ 10 ≤ (lkCode w).toNat := by
  have hfield := (lkCode w).isLt
  unfold decodeLk
  generalize (lkCode w).toNat = n at hfield ⊢
  interval_cases n <;> simp

theorem decodeIq_error_iff {w : BitVec 6} : (∃ e, decodeIq w = .error e) ↔ iqOp w = 3#2 := by
  have hfield := (iqOp w).isLt
  rw [← BitVec.toNat_inj]
  unfold decodeIq
  generalize (iqOp w).toNat = n at hfield ⊢
  interval_cases n <;> simp

/-- Every operation completes (R400): each arm of `exec` is `done` or `answer`. -/
theorem exec_ne_refused (i : Instr) (s : State) (r : Refusal) : exec i s ≠ .refused r := by
  cases i <;> exact nofun

/-- A word is refused where it spells no operation. -/
theorem runWord_refused_iff {w : OpWord} {s : State} :
    (∃ r, runWord w s = .refused r) ↔ ∃ e, decode s.cfg.codes w = .error e := by
  cases hdec : decode s.cfg.codes w with
  | ok i => simp [runWord_of_decode hdec, exec_ne_refused]
  | error e => simp [runWord, hdec]

/-- Settles O5: a step runs the word it fetches, and each format has its own reserved words. -/
theorem reservedWordsAreThoseRefused : Obligations.ReservedWordsAreThoseRefused := by
  intro s w rest hok hops
  rw [step_of_fetch_some hok (fetch_of_ops_cons hops), runWord_refused_iff]
  cases w with
  | t v => exact decodeT_error_iff
  | lk v => exact decodeLk_error_iff
  | iq v => exact decodeIq_error_iff
  | zc b => exact iff_of_false (fun ⟨_, h⟩ => nomatch h) id

/-- Settles O6: closed words, evaluated. -/
theorem specWordsDecode : Obligations.SpecWordsDecode := by
  unfold Obligations.SpecWordsDecode
  decide

/-! ### Port views and unclaimed ports (R125, R126, R163, R164) -/

/-- IN at a port that no claim owns floats. -/
theorem ioIn_of_unclaimed {s : State} {p : Port} (h : s.cfg.owner p = none) : ioIn p s = (ioFloat, s) := by simp [ioIn, h]

/-- OUT at a port that no claim owns goes nowhere. -/
theorem ioOut_of_unclaimed {s : State} {p : Port} (v : Byte) (h : s.cfg.owner p = none) : ioOut p v s = s := by simp [ioOut, h]

/-- Settles O17: the views are the same port operations by definition, for any owner. -/
theorem unclaimedPortsFloatAndViewsArePorts : Obligations.UnclaimedPortsFloatAndViewsArePorts := by
  refine fun s p v => ⟨fun hfree => ⟨?_, ?_⟩, rfl, rfl, rfl, rfl, rfl, rfl⟩
  · calc exec (.inp p) s = answer (ioIn p s) := rfl
      _ = .next (s.setReturned (some ioFloat)) := by rw [ioIn_of_unclaimed hfree]; rfl
  · calc exec (.out p v) s = done (ioOut p v s) := rfl
      _ = .next (s.setReturned none) := by rw [ioOut_of_unclaimed v hfree]; rfl

/-! ### The bits of a status byte (R135, R138, R290, R343) -/

/-- A bit placed in a byte stands there alone. -/
theorem getElem_bitAt (b : Bool) {n i : Nat} (hi : i < 8) : (bitAt b n)[i] = (b && decide (i = n)) := by
  unfold bitAt
  cases b with
  | false => simp
  | true =>
    rw [Bool.eq_iff_iff]
    simp only [↓reduceIte, BitVec.getElem_shiftLeft, BitVec.getElem_one, Bool.and_eq_true, Bool.not_eq_eq_eq_not, Bool.not_true,
      decide_eq_false_iff_not, decide_eq_true_eq, Bool.true_and]
    omega

/-- Settles O34: the card's first port answers its status byte, whose bits are `getElem_bitAt`. -/
theorem statusByteShowsTheLink : Obligations.StatusByteShowsTheLink := by
  intro s p n i howner hi
  have hread : exec i s = exec (.inp p) s := by
    rcases hi with rfl | ⟨rfl, rfl⟩ <;> rfl
  refine ⟨statusByte s.hif s.link, ?_, ?_⟩
  · calc exec i s = answer (ioIn p s) := hread
      _ = .next (s.setReturned (some (statusByte s.hif s.link))) := by rw [ioIn_of_owner howner, Nat.sub_self]; rfl
  · simp [statusByte, getElem_bitAt]

/-- The reference layout puts latch `k` on bit `k` (R138). -/
theorem statusByte_reference_bits (e : ErrorLatches) :
    let b := e.statusByte StatusBits.reference
    b.getLsbD 0 = e.driveNotReady ∧ b.getLsbD 1 = e.diskWriteProtected ∧ b.getLsbD 2 = e.deletedData ∧
      b.getLsbD 3 = e.noRecordFound ∧ b.getLsbD 4 = e.crcError ∧ b.getLsbD 5 = e.lateData ∧
      b.getLsbD 6 = e.invalidCommandReceived ∧ b.getLsbD 7 = e.badTrackOverflow := by
  simp [ErrorLatches.statusByte, StatusBits.reference, getElem_bitAt]

/-! ### The track byte (R340, R341) -/

/-- Position 2 of a read and of a write (R340, R341). -/
theorem handler_track {k : CtrlState} (hk : k = .readSectorsBuffered ∨ k = .writeSectorsBuffered) (v : Byte) (s : State) :
    handler k 2 v s = (s.setZ47 { s.z47 with track := v }, .req) := by
  rcases hk with rfl | rfl <;> rfl

/-- Settles O48: position 2 of the command that runs is `handler_track`. -/
theorem trackByteIsTakenWhole : Obligations.TrackByteIsTakenWhole := by
  intro s c hclocked hzero hlink hc hpos
  have hruns : s.z47.ctrlState ≠ .none := by rcases hc with hc | hc <;> simp [hc]
  have hstep : linkStep s = s.setZ47 { s.z47 with
      rxPending := false, statePosition := 2, track := s.z47.rxByte, linkState := .awaitingToReqReceive } := by
    rw [linkStep_of_running hlink hruns, nextPosition_eq, hpos, handler_track hc]
    simp [applyAction, State.atNextPosition, State.setZ47, hpos]
  rw [exec_tick_of_expired c hclocked hzero, hstep]
  rfl

/-! ### A command word as a byte on the link (R120 (d), R130, R293) -/

/-- The two ports of a wired card are one apart: the claim that begins at the first covers the second. -/
theorem z47DataPort_offset {c : Config} (hwired : c.wired = true) :
    c.codes.z47DataPort.toNat - c.codes.z47PortBase.toNat = 1 := by
  obtain ⟨-, -, howner, -⟩ := wired_iff.1 hwired
  have hcovers := owner_covers howner
  simp only [Claim.covers, Bool.and_eq_true, decide_eq_true_eq] at hcovers
  unfold Codes.z47DataPort at hcovers ⊢
  bv_omega

/-- An OUT at the data port of a wired card sends the byte. -/
theorem ioOut_z47DataPort {s : State} (v : Byte) (hwired : s.cfg.wired = true) :
    ioOut s.cfg.codes.z47DataPort v s = cardDataOut v s := by
  obtain ⟨-, -, howner, -⟩ := wired_iff.1 hwired
  rw [ioOut_of_owner v howner, z47DataPort_offset hwired]
  rfl

/-- An IN at the data port of a wired card takes the byte on the link. -/
theorem ioIn_z47DataPort {s : State} (hwired : s.cfg.wired = true) : ioIn s.cfg.codes.z47DataPort s = cardDataIn s := by
  obtain ⟨-, -, howner, -⟩ := wired_iff.1 hwired
  rw [ioIn_of_owner howner, z47DataPort_offset hwired]
  rfl

/-- A byte sent by the host, as one update of the state (R260). -/
theorem sendHost_eq (v : Byte) (s : State) :
    sendHost v s = { s with
      link := { s.link with data := v, dataFromHost := true, dataFromDrive := false }
      log := if s.link.dataFromDrive = true then s.log ++ [.linkContention .host] else s.log } := by
  unfold sendHost
  split <;> rfl

/-- DTAK is no part of the card's condition: it may fall before the request is settled. -/
theorem setDtak_false_settleIrq (s : State) :
    setDtak false (settleIrq s) = settleIrq (s.setLink { s.link with dtak := false }) := by
  have hlink : (settleIrq s).link = s.link := by simp
  rw [setDtak_false, hlink]
  unfold settleIrq
  rw [apply_ite (State.setLink · _), apply_ite (State.setLink · _)]
  rfl

section Wired
variable {s : State} (hlevel : s.cfg.z47IntLevel < s.cfg.intLevels.val) (hcard : s.cfg.host = some .card)
include hlevel hcard

/-- The registered card settles its request when DTR changes (R295). -/
theorem setDtr_of_card (b : Bool) : setDtr b s = settleIrq (s.setLink { s.link with dtr := b }) :=
  hostSignal_card (s.setLink _) hlevel hcard

/-- A waiting controller takes the byte on the link when it is acknowledged, and lowers DTR (R326). -/
theorem onDtak_of_waiting (hlink : s.z47.linkState = .awaitingToReceive) (hbyte : s.link.dataFromHost = true) :
    onDtak s = settleIrq { s with
      z47 := { s.z47 with rxByte := s.link.data, rxPending := true, linkState := .ready }
      link := { s.link with dataFromHost := false, dtr := false } } := by
  unfold onDtak
  simp only [hlink, hbyte, if_true]
  rw [setDtr_of_card (by simpa using hlevel) (by simpa using hcard), ← settleIrq_setZ47]
  simp [State.setZ47, State.setLink, readByDrive]

/-- A byte the host sends to a waiting controller, as one update of the state (R293, R326). -/
theorem cardDataOut_of_waiting (v : Byte) (hdevice : s.cfg.device = some .controller)
    (hlink : s.z47.linkState = .awaitingToReceive) :
    cardDataOut v s = settleIrq { s with
      z47 := { s.z47 with rxByte := v, rxPending := true, linkState := .ready }
      link := { s.link with data := v, dataFromHost := false, dataFromDrive := false, dtr := false, dtak := false }
      log := if s.link.dataFromDrive = true then s.log ++ [.linkContention .host] else s.log } := by
  have hraise : setDtak true (sendHost v s) = onDtak ((sendHost v s).setLink { (sendHost v s).link with dtak := true }) := by
    simp [setDtak, deviceSignal, hdevice]
  rw [cardDataOut, dtakPulse, hraise,
    onDtak_of_waiting (by simpa using hlevel) (by simpa using hcard) (by simpa using hlink) (by simp), setDtak_false_settleIrq,
    sendHost_eq]
  rfl

end Wired

/-- Settles O44: the command words and the data write run the same data port, and a waiting controller takes the byte. -/
theorem commandWordsSendTheirByte : Obligations.CommandWordsSendTheirByte := by
  intro s b i hwired hlevel hi
  obtain ⟨-, -, -, hcard, hdevice, -⟩ := wired_iff.1 hwired
  have hcommand : exec i s = done (cardDataOut b s) := by
    rcases hi with ⟨rfl, rfl⟩ | ⟨rfl, rfl⟩ | ⟨rfl, rfl⟩ | rfl <;> rfl
  have hwrite : exec (.z47Dout b) s = done (cardDataOut b s) := congrArg done (ioOut_z47DataPort b hwired)
  refine ⟨hcommand.trans hwrite.symm, fun hlink => ?_⟩
  rw [hcommand, done, cardDataOut_of_waiting hlevel hcard b hdevice hlink, ← settleIrq_setReturned]
  rfl

/-! ### A byte from the controller to the host (R262, R321, R323, R326) -/

/-- The controller puts its byte on the link, and raises DDOUT and DTR. -/
theorem linkStep_of_transmitting {s : State} (hlink : s.z47.linkState = .awaitingToTransmit) :
    (linkStep s).z47 = { s.z47 with linkState := .awaitingTransmitComplete } ∧
      (linkStep s).link = { s.link with
        data := s.z47.txByte, dataFromHost := false, dataFromDrive := true, ddOut := true, dtr := true } := by
  simp [linkStep, hlink]

/-- The host takes the byte on the link, and its acknowledge ends the offer. -/
theorem cardDataIn_of_transmitted {s : State} (hdevice : s.cfg.device = some .controller)
    (hlink : s.z47.linkState = .awaitingTransmitComplete) :
    (cardDataIn s).1 = s.link.data ∧ (cardDataIn s).2.z47 = { s.z47 with linkState := .holdingDTR } ∧
      (cardDataIn s).2.link = { s.link with dataFromDrive := false, dtak := false } := by
  simp [cardDataIn, dtakPulse, setDtak, deviceSignal, onDtak, hdevice, hlink]

/-- The controller lowers DTR. -/
theorem linkStep_of_holding {s : State} (hlink : s.z47.linkState = .holdingDTR) :
    (linkStep s).z47 = { s.z47 with linkState := .awaitingReadyState } ∧ (linkStep s).link = { s.link with dtr := false } := by
  simp [linkStep, hlink]

/-- The controller lowers DDOUT, where it is high, and is Ready. -/
theorem linkStep_of_settled {s : State} (hlink : s.z47.linkState = .awaitingReadyState) :
    (linkStep s).z47 = { s.z47 with linkState := .ready } ∧ (linkStep s).link = { s.link with ddOut := false } := by
  cases hdd : s.link.ddOut with
  | true => simp [linkStep, hlink, hdd]
  | false =>
    have hlow : { s.link with ddOut := false } = s.link := by rw [← hdd]
    simp [linkStep, hlink, hdd, hlow]

/-- A notification of a wired controller with no countdown left leaves what the link step leaves, and returns no byte. -/
theorem exec_tick_of_linkStep {s : State} {z : Z47} {l : Link} (c : BitVec 16) (hwired : s.cfg.wired = true)
    (hzero : s.z47.countDown = 0) (hstep : (linkStep s).z47 = z ∧ (linkStep s).link = l) :
    ∃ t, exec (.tick c) s = .next t ∧ t.returned = none ∧ t.cfg = s.cfg ∧ t.z47 = z ∧ t.link = l := by
  obtain ⟨-, -, -, -, -, hclocked⟩ := wired_iff.1 hwired
  exact ⟨_, exec_tick_of_expired c hclocked hzero, rfl, by simp, hstep⟩

/-- A data read of a wired card while the controller offers a byte. -/
theorem exec_z47Din_of_transmitted {s : State} (hwired : s.cfg.wired = true) (hlink : s.z47.linkState = .awaitingTransmitComplete) :
    ∃ t, exec .z47Din s = .next t ∧ t.returned = some s.link.data ∧ t.cfg = s.cfg ∧
      t.z47 = { s.z47 with linkState := .holdingDTR } ∧ t.link = { s.link with dataFromDrive := false, dtak := false } := by
  obtain ⟨-, -, -, -, hdevice, -⟩ := wired_iff.1 hwired
  obtain ⟨hbyte, hz, hl⟩ := cardDataIn_of_transmitted hdevice hlink
  exact ⟨_, congrArg answer (ioIn_z47DataPort hwired), congrArg some hbyte, by simp, hz, hl⟩

/-- The handshake that hands the host the byte a controller has ready: the byte is offered, read, and the signals fall. -/
theorem runOps_sendByte {s : State} (c1 c2 c3 : BitVec 16) (hwired : s.cfg.wired = true) (hzero : s.z47.countDown = 0)
    (hlink : s.z47.linkState = .awaitingToTransmit) :
    ∃ t, runOps [.tick c1, .z47Din, .tick c2, .tick c3] s = some (t, [s.z47.txByte]) ∧ t.cfg = s.cfg ∧
      t.z47 = { s.z47 with linkState := .ready } ∧
      t.link = { s.link with
        data := s.z47.txByte, dataFromHost := false, dataFromDrive := false, dtr := false, ddOut := false, dtak := false } := by
  obtain ⟨t1, h1, hr1, hcfg1, hz1, hl1⟩ := exec_tick_of_linkStep c1 hwired hzero (linkStep_of_transmitting hlink)
  rw [← hcfg1] at hwired
  obtain ⟨t2, h2, hr2, hcfg2, hz2, hl2⟩ := exec_z47Din_of_transmitted hwired (by rw [hz1])
  rw [hz1] at hz2
  rw [← hcfg2] at hwired
  obtain ⟨t3, h3, hr3, hcfg3, hz3, hl3⟩ :=
    exec_tick_of_linkStep c2 hwired (by rw [hz2]; exact hzero) (linkStep_of_holding (by rw [hz2]))
  rw [hz2] at hz3
  rw [← hcfg3] at hwired
  obtain ⟨t4, h4, hr4, hcfg4, hz4, hl4⟩ :=
    exec_tick_of_linkStep c3 hwired (by rw [hz3]; exact hzero) (linkStep_of_settled (by rw [hz3]))
  refine ⟨t4, (runOps_cons h1 (runOps_cons h2 (runOps_cons h3 (runOps_cons h4 rfl)))).trans ?_, ?_, ?_, ?_⟩
  · rw [hr1, hr2, hr3, hr4, hl1]
    rfl
  · rw [hcfg4, hcfg3, hcfg2, hcfg1]
  · rw [hz4, hz3]
  · rw [hl4, hl3, hl2, hl1]

/-! ### The status report (R138, R332, R343) -/

/-- The byte of a legal RCS names that command alone (R9 (f), R333). -/
theorem commandOf_cmdRcs {c : Codes} (hcommands : c.commandsOk = true) : commandOf c c.cmdRcs = .readControllerStatus := by
  obtain ⟨-, hrcs, hdistinct⟩ := commandsOk_iff.1 hcommands
  rw [commandOf, if_neg hrcs, if_neg hdistinct.symm, if_pos rfl]

/-- A Ready controller that runs no command starts the one whose byte it has received (R328). -/
theorem linkStep_of_received {s : State} (hlink : s.z47.linkState = .ready) (hc : s.z47.ctrlState = .none)
    (hpending : s.z47.rxPending = true) : linkStep s = startCommand s.z47.rxByte s := by
  simp [linkStep, controllerDispatch, hlink, hc, hpending]

/-- RCS starts: the report is taken, the latches and Error are cleared, and the report is ready to send. -/
theorem linkStep_of_status_received {s : State} (hlink : s.z47.linkState = .ready) (hc : s.z47.ctrlState = .none)
    (hpending : s.z47.rxPending = true) (hstatus : commandOf s.cfg.codes s.z47.rxByte = .readControllerStatus) :
    (linkStep s).z47 = { s.z47 with
        rxPending := false, ctrlState := .readControllerStatus, statePosition := 1, err := ErrorLatches.clear
        txByte := s.z47.err.statusByte s.cfg.statusBits, linkState := .awaitingToTransmit } ∧
      (linkStep s).link = { s.link with dtr := false, busy := true, error := false } := by
  rw [linkStep_of_received hlink hc hpending, startCommand_eq]
  simp [State.atStart, hstatus, handler, rcsHandler, applyAction, State.setErr]

/-- Position 2 of RCS ends the command (R343). -/
theorem linkStep_of_status_sent {s : State} (hlink : s.z47.linkState = .ready) (hc : s.z47.ctrlState = .readControllerStatus)
    (hpos : s.z47.statePosition = 1) :
    (linkStep s).z47 = { s.z47 with
        rxPending := false, ctrlState := .none, statePosition := 0, linkState := .awaitingReadyState, countDown := settleCycles } ∧
      (linkStep s).link = { s.link with busy := false, error := s.link.error || s.z47.err.any } := by
  have hends : linkStep s = commandComplete s.atNextPosition := by
    rw [linkStep_of_running hlink (by simp [hc]), nextPosition_eq, hc, hpos]
    rfl
  rw [hends]
  exact ⟨commandComplete_z47 _, commandComplete_link _⟩

/-- Settles O50: RCS starts with the report, the handshake hands it over, and the latches are clear when the command ends, so that
nothing raises Error. -/
theorem statusReportDrainsTheLatches : Obligations.StatusReportDrainsTheLatches := by
  refine ⟨fun e => ⟨_, rfl, statusByte_reference_bits e⟩, ?_⟩
  intro s c1 c2 c3 c4 c5 hok hwired hlink hc hzero hpending hbyte
  obtain ⟨-, -, -, -, hcommands, -⟩ := config_ok_iff.1 hok
  have hstatus : commandOf s.cfg.codes s.z47.rxByte = .readControllerStatus := hbyte ▸ commandOf_cmdRcs hcommands
  obtain ⟨t, ht, hrt, hcfgt, hzt, hlt⟩ :=
    exec_tick_of_linkStep c1 hwired hzero (linkStep_of_status_received hlink hc hpending hstatus)
  rw [← hcfgt] at hwired
  obtain ⟨u, hu, hcfgu, hzu, hlu⟩ := runOps_sendByte c2 c3 c4 hwired (by rw [hzt]; exact hzero) (by rw [hzt])
  rw [hzt] at hu hzu
  rw [← hcfgu] at hwired
  obtain ⟨v, hv, hrv, -, hzv, hlv⟩ := exec_tick_of_linkStep c5 hwired (by rw [hzu]; exact hzero)
    (linkStep_of_status_sent (by rw [hzu]) (by rw [hzu]) (by rw [hzu]))
  have hclear : u.z47.err = ErrorLatches.clear := by rw [hzu]
  have hlow : u.link.error = false := by rw [hlu, hlt]
  refine ⟨v, (runOps_cons ht (runOps_append hu (runOps_cons hv rfl))).trans ?_, ?_⟩
  · rw [hrt, hrv]
    rfl
  · rw [hzv, hlv]
    refine ⟨hclear, ?_, rfl, rfl, rfl, rfl⟩
    calc (u.link.error || u.z47.err.any) = (false || ErrorLatches.clear.any) := by rw [hlow, hclear]
      _ = false := rfl

end Sys2Proof.Machine

/-! The bus transactions (40_bus_transactions.md): the order of the reset broadcast, the ports that a claim takes, the GPP's read port and
the clock's notifications. -/

namespace Sys2Proof.Machine

/-! ### The order of the reset broadcast (R166, R167) -/

/-- A claim put among claims in order leaves them in order. -/
theorem pairwise_claimInsert {k : Claim} {l : List Claim} (h : l.Pairwise fun i j => i.base.toNat ≤ j.base.toNat) :
    (Claim.insert k l).Pairwise fun i j => i.base.toNat ≤ j.base.toNat := by
  induction l with
  | nil => exact List.pairwise_singleton _ _
  | cons j l ih =>
    obtain ⟨hj, hl⟩ := List.pairwise_cons.1 h
    unfold Claim.insert
    split <;> rename_i hkj
    · refine List.pairwise_cons.2 ⟨fun i hi => ?_, h⟩
      rcases List.mem_cons.1 hi with rfl | hi
      · exact hkj
      · exact hkj.trans (hj i hi)
    · refine List.pairwise_cons.2 ⟨fun i hi => ?_, ih hl⟩
      rcases mem_claimInsert.1 hi with rfl | hi
      · exact Nat.le_of_not_le hkj
      · exact hj i hi

theorem pairwise_claimSort (l : List Claim) : (Claim.sort l).Pairwise fun i j => i.base.toNat ≤ j.base.toNat := by
  induction l with
  | nil => exact List.Pairwise.nil
  | cons k l ih => exact pairwise_claimInsert ih

/-- Device `d` has a claim among `l` that begins at or below every claim of device `e` there. -/
def StartsNoLater (l : List Claim) (d e : Device) : Prop :=
  ∃ k ∈ l, k.dev = d ∧ ∀ j ∈ l, j.dev = e → k.base.toNat ≤ j.base.toNat

theorem startsNoLater_claimSort {l : List Claim} {d e : Device} : StartsNoLater (Claim.sort l) d e ↔ StartsNoLater l d e := by
  simp only [StartsNoLater, mem_claimSort]

/-- A claim of a third device has no say in which of two begins first. -/
theorem StartsNoLater.cons {l : List Claim} {d e : Device} {k : Claim} (h : StartsNoLater l d e) (hk : k.dev ≠ e) :
    StartsNoLater (k :: l) d e := by
  obtain ⟨i, hi, hdev, hfirst⟩ := h
  refine ⟨i, List.mem_cons_of_mem k hi, hdev, fun j hj he => ?_⟩
  rcases List.mem_cons.1 hj with rfl | hj
  · exact absurd he hk
  · exact hfirst j hj he

theorem nodup_devicesOnce (seen : List Device) (l : List Claim) : (Claim.devicesOnce seen l).Nodup := by
  induction l generalizing seen with
  | nil => exact List.nodup_nil
  | cons k l ih =>
    unfold Claim.devicesOnce
    split
    · exact ih seen
    · refine List.nodup_cons.2 ⟨fun hmem => ?_, ih _⟩
      obtain ⟨hnew, -⟩ := (mem_devicesOnce _).1 hmem
      exact hnew List.mem_cons_self

/-- Of claims in order, a device is taken at its lowest, so the devices come in the order of their lowest ports: the claim just passed
is of no device still to come, for a device once seen is not taken again. -/
theorem pairwise_devicesOnce (seen : List Device) {l : List Claim} (h : l.Pairwise fun i j => i.base.toNat ≤ j.base.toNat) :
    (Claim.devicesOnce seen l).Pairwise (StartsNoLater l) := by
  induction l generalizing seen with
  | nil => exact List.Pairwise.nil
  | cons k l ih =>
    obtain ⟨hk, hl⟩ := List.pairwise_cons.1 h
    have hrest (seen' : List Device) (hseen : k.dev ∈ seen') :
        (Claim.devicesOnce seen' l).Pairwise (StartsNoLater (k :: l)) := by
      refine (ih seen' hl).imp_of_mem fun _ he hde => hde.cons fun hdev => ?_
      exact ((mem_devicesOnce seen').1 he).1 (hdev ▸ hseen)
    unfold Claim.devicesOnce
    split <;> rename_i hseen
    · exact hrest seen hseen
    · refine List.pairwise_cons.2 ⟨fun e _ => ⟨k, List.mem_cons_self, rfl, fun j hj _ => ?_⟩, hrest _ List.mem_cons_self⟩
      rcases List.mem_cons.1 hj with rfl | hj
      · exact Nat.le_refl _
      · exact hk j hj

/-- Settles O19: the broadcast is `Claim.devicesOnce` of the claims in order. -/
theorem resetBroadcastOncePerDevice : Obligations.ResetBroadcastOncePerDevice := by
  intro c
  have horder : c.resetOrder.Pairwise (StartsNoLater (Claim.sort c.claims)) := pairwise_devicesOnce [] (pairwise_claimSort c.claims)
  exact ⟨nodup_devicesOnce [] _, fun _ => mem_resetOrder, horder.imp startsNoLater_claimSort.1⟩

/-! ### The ports that a claim takes (R37, R172) -/

theorem covers_iff {k : Claim} {q : Port} : k.covers q = true ↔ k.base.toNat ≤ q.toNat ∧ q.toNat < k.base.toNat + k.count := by
  simp [Claim.covers]

theorem owner_ne_none_iff {c : Config} {q : Port} : c.owner q ≠ none ↔ ∃ k ∈ c.claims, k.covers q = true := by
  rw [← Option.isSome_iff_ne_none]
  exact List.find?_isSome

theorem portsTaken_iff {b : Build} {base : Port} {n : Nat} :
    b.portsTaken base n = true ↔
      ∃ k ∈ b.cfg.claims, k.base.toNat < base.toNat + n ∧ base.toNat < k.base.toNat + k.count := by
  simp [Build.portsTaken]

/-- Two runs of ports overlap where they share a port: the higher of the two bases. -/
theorem overlap_iff_common_port {k : Claim} {base : Port} {n : Nat} (hn : 0 < n) (hcount : 0 < k.count) :
    (k.base.toNat < base.toNat + n ∧ base.toNat < k.base.toNat + k.count) ↔
      ∃ q : Port, base.toNat ≤ q.toNat ∧ q.toNat < base.toNat + n ∧ k.covers q = true := by
  simp only [covers_iff]
  constructor
  · rintro ⟨hbelow, habove⟩
    rcases Nat.le_total k.base.toNat base.toNat with hle | hle
    · exact ⟨base, by omega⟩
    · exact ⟨k.base, by omega⟩
  · rintro ⟨q, hlow, hhigh, hklow, hkhigh⟩
    exact ⟨by omega, by omega⟩

/-- Among claims that each hold a port, a claim of some ports meets another exactly where one of its ports has an owner. -/
theorem portsTaken_iff_owner {b : Build} {base : Port} {n : Nat} (hn : 0 < n) (hclaims : ∀ k ∈ b.cfg.claims, 0 < k.count) :
    b.portsTaken base n = true ↔ ∃ q : Port, base.toNat ≤ q.toNat ∧ q.toNat < base.toNat + n ∧ b.cfg.owner q ≠ none := by
  simp only [portsTaken_iff, owner_ne_none_iff]
  constructor
  · rintro ⟨k, hk, hoverlap⟩
    obtain ⟨q, hlow, hhigh, hcovers⟩ := (overlap_iff_common_port hn (hclaims k hk)).1 hoverlap
    exact ⟨q, hlow, hhigh, k, hk, hcovers⟩
  · rintro ⟨q, hlow, hhigh, k, hk, hcovers⟩
    exact ⟨k, hk, (overlap_iff_common_port hn (hclaims k hk)).2 ⟨q, hlow, hhigh, hcovers⟩⟩

theorem addDevice_fails {b : Build} {dev : Device} {base : Port} {n : Nat}
    (h : n = 0 ∨ 256 < base.toNat + n ∨ b.portsTaken base n = true) :
    b.addDevice dev base n = (b.logged (.portConflict dev base n), false) := if_pos h

theorem addDevice_claims {b : Build} {dev : Device} {base : Port} {n : Nat}
    (h : ¬(n = 0 ∨ 256 < base.toNat + n ∨ b.portsTaken base n = true)) :
    b.addDevice dev base n = ({ b with cfg := { b.cfg with claims := b.cfg.claims ++ [⟨dev, base, n⟩] } }, true) := if_neg h

/-- A new claim owns the ports it covers that had no owner, and every other port keeps its owner. -/
theorem owner_append (c : Config) (k : Claim) (q : Port) :
    { c with claims := c.claims ++ [k] }.owner q = (c.owner q).or (if k.covers q then some k else none) := by
  simp [Config.owner, List.find?_append, List.find?_singleton]

/-- Settles O59: ADD_DEVICE looks for an overlap with a claim, which is a port with an owner by `portsTaken_iff_owner`. -/
theorem addDeviceIsAllOrNothing : Obligations.AddDeviceIsAllOrNothing := by
  intro b dev base n
  refine ⟨fun hbad hclaims => addDevice_fails ?_, fun hn hfit hfree hclaims => ?_⟩
  · rcases Nat.eq_zero_or_pos n with hzero | hn
    · exact .inl hzero
    · rwa [portsTaken_iff_owner hn fun k hk => (hclaims k hk).1]
  · have hnone : ¬b.portsTaken base n = true := by
      rw [portsTaken_iff_owner (Nat.pos_of_ne_zero hn) fun k hk => (hclaims k hk).1]
      exact fun ⟨q, hlow, hhigh, howner⟩ => howner (hfree q hlow hhigh)
    rw [addDevice_claims (not_or.2 ⟨hn, not_or.2 ⟨Nat.not_lt.2 hfit, hnone⟩⟩)]
    refine ⟨rfl, fun q => ?_⟩
    rw [owner_append]
    by_cases hq : base.toNat ≤ q.toNat ∧ q.toNat < base.toNat + n
    · rw [if_pos hq, if_pos (covers_iff.2 hq), hfree q hq.1 hq.2]
      rfl
    · rw [if_neg hq, if_neg fun h => hq (covers_iff.1 h), Option.or_none]

/-! ### The GPP's read port (R163, R212) -/

/-- Settles O25: both spellings are IN at the first port of the GPP's claim. -/
theorem gppReadReturnsTheSwitches : Obligations.GppReadReturnsTheSwitches := by
  intro s p n i howner hi
  have hread : exec i s = exec (.inp p) s := by
    rcases hi with rfl | ⟨rfl, rfl⟩ <;> rfl
  calc exec i s = answer (ioIn p s) := hread
    _ = .next (s.setReturned (some s.cfg.gppInValue)) := by rw [ioIn_of_owner howner, Nat.sub_self]; rfl

/-! ### The clock's notifications (R165, R320) -/

theorem exec_tick_of_clocked {s : State} (c : BitVec 16) (h : s.cfg.clocked = true) :
    exec (.tick c) s = done (notification c.toNat s) := congrArg done (if_pos h)

theorem exec_tick_of_unclocked {s : State} (c : BitVec 16) (h : s.cfg.clocked = false) : exec (.tick c) s = done s :=
  congrArg done (if_neg (by simp [h]))

theorem notification_of_short {s : State} {c : Nat} (h : c < s.z47.countDown) :
    notification c s = s.setZ47 { s.z47 with countDown := s.z47.countDown - c } := if_pos h

theorem notification_of_long {s : State} {c : Nat} (h : s.z47.countDown ≤ c) :
    notification c s = linkStep (s.setZ47 { s.z47 with countDown := 0 }) := if_neg (Nat.not_lt.2 h)

/-- Settles O39: a notification that reaches zero does what one at a countdown of 0 does, by `exec_tick_of_expired`. -/
theorem countdownFreezesTheController : Obligations.CountdownFreezesTheController := by
  refine fun s c => ⟨fun hclocked hshort => ?_, fun hclocked hlong => ?_, fun hunclocked => ?_⟩
  · rw [exec_tick_of_clocked c hclocked, notification_of_short hshort]
    rfl
  · calc exec (.tick c) s = done (linkStep (s.setZ47 { s.z47 with countDown := 0 })) := by
          rw [exec_tick_of_clocked c hclocked, notification_of_long hlong]
      _ = exec (.tick 0#16) (s.setZ47 { s.z47 with countDown := 0 }) :=
          (exec_tick_of_expired (s := s.setZ47 { s.z47 with countDown := 0 }) 0#16 hclocked rfl).symm
  · rw [exec_tick_of_unclocked c hunclocked]
    rfl

end Sys2Proof.Machine

/-! Bank switching (41_bank_switching.md): a GPP write by variant, the lock of the MMS77318 and its unlock sequence, and what every
step keeps of the decoder. -/

namespace Sys2Proof.Machine

/-! ### A GPP write by variant (R200, R203, R204) -/

/-- Both spellings of a GPP write are an OUT at the first port of the GPP's claim. -/
theorem exec_gppWrite {s : State} {v : Byte} {p : Port} {n : Nat} {i : Instr} (howner : s.cfg.owner p = some ⟨.gpp, p, n⟩)
    (hi : i = .out p v ∨ (i = .gppWr v ∧ p = s.cfg.codes.gppPort)) : exec i s = .next ((gppOut v s).setReturned none) := by
  have hwrite : exec i s = exec (.out p v) s := by
    rcases hi with rfl | ⟨rfl, rfl⟩ <;> rfl
  calc exec i s = done (ioOut p v s) := hwrite
    _ = done (gppOut v s) := by rw [ioOut_of_owner v howner, Nat.sub_self]; rfl

theorem exec_gppWr_of_wired {s : State} (v : Byte) (hwired : s.cfg.wired = true) :
    exec (.gppWr v) s = .next ((gppOut v s).setReturned none) :=
  exec_gppWrite (wired_owners hwired).1 (.inr ⟨rfl, rfl⟩)

theorem gppOut_h88 {s : State} (v : Byte) (hv : s.cfg.variant = .h88) :
    gppOut v s = { s with gpp := v, dec := { s.dec with curBank := 0 } } := by
  simp [gppOut, decoderNotify, hv, State.setGpp, State.setDec]

theorem gppOut_h89 {s : State} (v : Byte) (hv : s.cfg.variant = .h89) :
    gppOut v s = { s with gpp := v, dec := { s.dec with curBank := pext v s.dec.gppBits } } := by
  simp [gppOut, decoderNotify, hv, State.setGpp, State.setDec]

theorem gppOut_mms77318 {s : State} (v : Byte) (hv : s.cfg.variant = .mms77318) :
    gppOut v s = { s with gpp := v, dec := notifyMms s.cfg v s.dec } := by
  simp [gppOut, decoderNotify, hv, State.setGpp, State.setDec]

/-- Settles O21: both spellings by `exec_gppWrite`, then the variant's notification. -/
theorem gppWriteOnH88AndH89 : Obligations.GppWriteOnH88AndH89 := by
  intro s v p n i howner hi
  refine ⟨fun hv => ?_, fun hv => ?_⟩
  · rw [exec_gppWrite howner hi, gppOut_h88 v hv]
    rfl
  · rw [exec_gppWrite howner hi, gppOut_h89 v hv]
    rfl

/-! ### The lock of the MMS77318 (R205 to R208) -/

/-- A locked decoder takes one step of the matcher; the one that completes the sequence narrows the mask and selects with it. -/
theorem notifyMms_of_locked {c : Config} {d : Decoder} (v : Byte) (hlock : d.lockState < unlocked) :
    notifyMms c v d = if lockStep c d.lockState v = unlocked then ⟨c.mmsBankMask, pext v c.mmsBankMask, unlocked⟩
      else ⟨d.gppBits, pext v c.mmsPreMask, lockStep c d.lockState v⟩ := by
  unfold notifyMms
  rw [if_pos hlock]
  by_cases hstep : lockStep c d.lockState v = unlocked <;> simp [hstep]

/-- An unlocked decoder does not run the matcher (R207). -/
theorem notifyMms_of_unlocked {c : Config} {d : Decoder} (v : Byte) (hlock : d.lockState = unlocked) :
    notifyMms c v d = { d with curBank := pext v c.mmsBankMask } := by
  simp [notifyMms, hlock]

theorem lockStep_of_match {c : Config} {l : Nat} {v : Byte} (h : v &&& c.mmsUnlockMask = mmsUnlockSeq.getD l 0x00#8) :
    lockStep c l v = l + 1 := if_pos h

/-- At step 0 a match and a mismatch lead to the same step (R206). -/
theorem lockStep_zero (c : Config) (v : Byte) : lockStep c 0 v = 1 := ite_self 1

/-- The matcher never passes the step that unlocks. -/
theorem lockStep_le_unlocked {l : Nat} (c : Config) (v : Byte) (hlock : l < unlocked) : lockStep c l v ≤ unlocked := by
  unfold lockStep
  split
  · exact hlock
  · decide

/-- Settles O22: the step that `l` names is `lockStep`, and the decoder is then `notifyMms_of_locked`. -/
theorem gppWriteOnLockedMms77318 : Obligations.GppWriteOnLockedMms77318 := by
  intro s v p n l i howner hi hv hlock hl
  have hstep : l = lockStep s.cfg s.dec.lockState v := hl
  subst hstep
  rw [exec_gppWrite howner hi, gppOut_mms77318 v hv, notifyMms_of_locked v hlock]
  rfl

/-! ### The unlock sequence (R206, R207) -/

/-- What is left of the sequence at a step: the byte the matcher waits for, and what is left after it. -/
theorem mmsUnlockSeq_drop_eq_cons {l : Nat} {b : Byte} {bs : List Byte} (h : mmsUnlockSeq.drop l = b :: bs) :
    l < unlocked ∧ mmsUnlockSeq.getD l 0x00#8 = b ∧ mmsUnlockSeq.drop (l + 1) = bs := by
  have hlock : l < mmsUnlockSeq.length := by
    by_contra hpast
    rw [List.drop_eq_nil_of_le (Nat.not_lt.1 hpast)] at h
    cases h
  rw [List.drop_eq_getElem_cons hlock] at h
  obtain ⟨hhead, htail⟩ := List.cons.inj h
  exact ⟨hlock, (List.getD_eq_getElem _ _ hlock).trans hhead, htail⟩

/-- Bytes that match what is left of the sequence unlock the decoder, and the last of them selects the bank. -/
theorem foldl_notifyMms_of_match {c : Config} {d : Decoder} {v : Byte} {vs : List Byte}
    (hmatch : mmsUnlockSeq.drop d.lockState = (v :: vs).map fun w => w &&& c.mmsUnlockMask) :
    (v :: vs).foldl (fun d w => notifyMms c w d) d =
      ⟨c.mmsBankMask, pext ((v :: vs).getLast (List.cons_ne_nil v vs)) c.mmsBankMask, unlocked⟩ := by
  induction vs generalizing v d with
  | nil =>
    obtain ⟨hlock, hhead, htail⟩ := mmsUnlockSeq_drop_eq_cons hmatch
    have hlast : d.lockState + 1 = unlocked := Nat.le_antisymm hlock (List.drop_eq_nil_iff.1 htail)
    rw [List.foldl_cons, notifyMms_of_locked v hlock, lockStep_of_match hhead.symm, if_pos hlast]
    rfl
  | cons w vs ih =>
    obtain ⟨hlock, hhead, htail⟩ := mmsUnlockSeq_drop_eq_cons hmatch
    obtain ⟨hnext, -⟩ := mmsUnlockSeq_drop_eq_cons htail
    rw [List.foldl_cons, notifyMms_of_locked v hlock, lockStep_of_match hhead.symm, if_neg hnext.ne]
    exact ih htail

theorem exec_gppWr_mms77318 {s : State} (v : Byte) (hv : s.cfg.variant = .mms77318) (hwired : s.cfg.wired = true) :
    exec (.gppWr v) s = .next { s with gpp := v, dec := notifyMms s.cfg v s.dec, returned := none } := by
  rw [exec_gppWr_of_wired v hwired, gppOut_mms77318 v hv]
  rfl

/-- A run of GPP writes on a wired MMS77318 notifies its decoder of each byte in turn, and leaves the last one in the latch. -/
theorem runOps_gppWr_mms77318 {s : State} (v : Byte) (vs : List Byte) (hv : s.cfg.variant = .mms77318)
    (hwired : s.cfg.wired = true) :
    runOps ((v :: vs).map .gppWr) s =
      some ({ s with
        gpp := (v :: vs).getLast (List.cons_ne_nil v vs)
        dec := (v :: vs).foldl (fun d w => notifyMms s.cfg w d) s.dec
        returned := none }, []) := by
  induction vs generalizing v s with
  | nil => exact runOps_cons (exec_gppWr_mms77318 v hv hwired) rfl
  | cons w vs ih => exact runOps_cons (exec_gppWr_mms77318 v hv hwired) (ih w hv hwired)

/-- Settles O23: the first byte leads to step 1 whatever it is, and the other five match the rest of the sequence. -/
theorem unlockSequenceOpensTheBanks : Obligations.UnlockSequenceOpensTheBanks := by
  intro s b0 b1 b2 b3 b4 b5 hv hwired hlock h1 h2 h3 h4 h5
  have hfirst : notifyMms s.cfg b0 s.dec = ⟨s.dec.gppBits, pext b0 s.cfg.mmsPreMask, 1⟩ := by
    rw [notifyMms_of_locked b0 (by rw [hlock]; decide), hlock, lockStep_zero]
    rfl
  have hrest : [b1, b2, b3, b4, b5].foldl (fun d w => notifyMms s.cfg w d) (notifyMms s.cfg b0 s.dec) =
      ⟨s.cfg.mmsBankMask, pext b5 s.cfg.mmsBankMask, unlocked⟩ := by
    rw [hfirst]
    exact foldl_notifyMms_of_match (by simp [h1, h2, h3, h4, h5])
  have hrun := runOps_gppWr_mms77318 b0 [b1, b2, b3, b4, b5] hv hwired
  rw [List.foldl_cons, hrest] at hrun
  exact hrun

/-! ### What an operation may do to the decoder (R201, R207, R213) -/

/-- An OUT leaves the decoder, or notifies it of the byte. -/
theorem ioOut_dec (p : Port) (v : Byte) (s : State) :
    (ioOut p v s).dec = s.dec ∨ ∃ w, (ioOut p v s).dec = (gppOut w s).dec := by
  unfold ioOut
  split
  · exact .inl rfl
  · unfold deviceOut
    split
    · exact .inr ⟨v, rfl⟩
    all_goals exact .inl (by simp)

/-- An operation other than RESET leaves the decoder, or notifies it of a byte: an OUT is the one that can. -/
theorem exec_dec_of_ne_reset {i : Instr} {s t : State} (hi : i ≠ .reset) (h : exec i s = .next t) :
    t.dec = s.dec ∨ ∃ w, t.dec = (gppOut w s).dec := by
  cases i with
  | reset => exact absurd rfl hi
  | out p v => cases h; exact ioOut_dec p v s
  | gppWr v => cases h; exact ioOut_dec _ v s
  | z47Cmd v => cases h; exact ioOut_dec _ v s
  | z47Dout v => cases h; exact ioOut_dec _ v s
  | tick c => cases h; exact .inl (by rw [State.setReturned_dec]; split <;> simp)
  | _ => cases h; exact .inl (by simp)

/-- RESET sets the decoder as R213 says, and no device's reset touches it. -/
theorem exec_reset_dec {s t : State} (h : exec .reset s = .next t) : t.dec = ⟨s.cfg.gppBitsAtReset, 0, 0⟩ := by
  cases h
  simp [decoderReset]

/-- A GPP write to an unlocked MMS77318 only selects a bank. -/
theorem gppOut_dec_of_unlocked {s : State} (v : Byte) (hv : s.cfg.variant = .mms77318) (hlock : s.dec.lockState = unlocked) :
    (gppOut v s).dec = { s.dec with curBank := pext v s.cfg.mmsBankMask } := by
  rw [gppOut_mms77318 v hv, ← notifyMms_of_unlocked v hlock]

theorem exec_gppWr_curBank_of_unlocked {s t : State} {v : Byte} (hv : s.cfg.variant = .mms77318) (hwired : s.cfg.wired = true)
    (hlock : s.dec.lockState = unlocked) (h : exec (.gppWr v) s = .next t) : t.dec.curBank = pext v s.cfg.mmsBankMask := by
  rw [exec_gppWr_mms77318 v hv hwired, notifyMms_of_unlocked v hlock] at h
  cases h
  rfl

/-- Settles O24: no notification of an unlocked decoder writes its lock or its mask, and the bank it selects is `pext` of the bank
bits, so that `pext_congr` gives the rest. -/
theorem unlockedUntilReset : Obligations.UnlockedUntilReset := by
  intro i s t hv hlock h
  refine ⟨fun hi => ?_, ?_, ?_⟩
  · rcases exec_dec_of_ne_reset hi h with hdec | ⟨w, hdec⟩
    · rw [hdec]
      exact ⟨hlock, rfl⟩
    · rw [hdec, gppOut_dec_of_unlocked w hv hlock]
      exact ⟨hlock, rfl⟩
  · rintro rfl
    rw [exec_reset_dec h]
    exact ⟨rfl, by simp [Config.gppBitsAtReset, Config.mmsPreMask, hv]⟩
  · rintro hwired v w t' rfl hagree h'
    have hbank := exec_gppWr_curBank_of_unlocked hv hwired hlock h
    have hbank' := exec_gppWr_curBank_of_unlocked hv hwired hlock h'
    exact ⟨hbank, by rw [hbank, hbank', pext_congr hagree]⟩

/-! ### The decoder its variant can have (R207, R208, R210) -/

section Legal
variable {s : State}

theorem decoderLegal_h88 (hv : s.cfg.variant = .h88) :
    s.DecoderLegal ↔ s.dec.curBank < s.cfg.nBanks ∧ s.dec.gppBits = 0x00#8 ∧ s.dec.lockState = 0 := by
  simp [State.DecoderLegal, hv]

theorem decoderLegal_h89 (hv : s.cfg.variant = .h89) :
    s.DecoderLegal ↔ s.dec.curBank < s.cfg.nBanks ∧ s.dec.gppBits = s.cfg.h89Org0Mask ∧ s.dec.lockState = 0 := by
  simp [State.DecoderLegal, hv]

theorem decoderLegal_mms77318 (hv : s.cfg.variant = .mms77318) :
    s.DecoderLegal ↔ s.dec.curBank < s.cfg.nBanks ∧ s.dec.lockState ≤ unlocked ∧
      s.dec.gppBits = if s.dec.lockState = unlocked then s.cfg.mmsBankMask else s.cfg.mmsUnlockMask ||| s.cfg.mmsPreMask := by
  simp [State.DecoderLegal, hv]

/-- Legality reads the decoder and the configuration alone. -/
theorem State.DecoderLegal.congr {t : State} (hs : s.DecoderLegal) (hdec : t.dec = s.dec) (hcfg : t.cfg = s.cfg) :
    t.DecoderLegal := by
  unfold State.DecoderLegal
  rwa [hcfg, hdec]

end Legal

theorem nBanks_pos (c : Config) : 0 < c.nBanks := by
  unfold Config.nBanks
  split <;> decide

/-- R9 (a): a bank-select mask in use names no bank past the last. -/
theorem pext_lt_nBanks {c : Config} {m : Byte} (v : Byte) (hfit : c.masksFit = true) (hm : m ∈ c.bankMasks) :
    pext v m < c.nBanks :=
  (pext_lt v m).trans_le (of_decide_eq_true (List.all_eq_true.1 hfit m hm))

/-- The matcher of a legal MMS77318 narrows the mask exactly where it unlocks. -/
theorem gppOut_decoderLegal_mms77318 {s : State} (v : Byte) (hv : s.cfg.variant = .mms77318) (hfit : s.cfg.masksFit = true)
    (hs : s.DecoderLegal) : (gppOut v s).DecoderLegal := by
  obtain ⟨-, hlock, hbits⟩ := (decoderLegal_mms77318 hv).1 hs
  have hpre : pext v s.cfg.mmsPreMask < s.cfg.nBanks := pext_lt_nBanks v hfit (by simp [Config.bankMasks, hv])
  have hbank : pext v s.cfg.mmsBankMask < s.cfg.nBanks := pext_lt_nBanks v hfit (by simp [Config.bankMasks, hv])
  rw [decoderLegal_mms77318 (by simp [hv]), gppOut_mms77318 v hv]
  rcases Nat.lt_or_eq_of_le hlock with hlocked | hunlocked
  · rw [if_neg hlocked.ne] at hbits
    rw [notifyMms_of_locked v hlocked]
    split
    · exact ⟨hbank, Nat.le_refl _, rfl⟩
    · exact ⟨hpre, lockStep_le_unlocked s.cfg v hlocked, hbits⟩
  · rw [notifyMms_of_unlocked v hunlocked]
    exact ⟨hbank, hlock, hbits⟩

/-- A GPP write selects a bank its variant has (R210). -/
theorem gppOut_decoderLegal {s : State} (v : Byte) (hfit : s.cfg.masksFit = true) (hs : s.DecoderLegal) :
    (gppOut v s).DecoderLegal := by
  cases hv : s.cfg.variant with
  | h88 =>
    obtain ⟨-, hmask⟩ := (decoderLegal_h88 hv).1 hs
    rw [decoderLegal_h88 (by simp [hv]), gppOut_h88 v hv]
    exact ⟨nBanks_pos s.cfg, hmask⟩
  | h89 =>
    obtain ⟨-, hbits, hlock⟩ := (decoderLegal_h89 hv).1 hs
    have hbank : pext v s.dec.gppBits < s.cfg.nBanks := pext_lt_nBanks v hfit (by simp [Config.bankMasks, hv, hbits])
    rw [decoderLegal_h89 (by simp [hv]), gppOut_h89 v hv]
    exact ⟨hbank, hbits, hlock⟩
  | mms77318 => exact gppOut_decoderLegal_mms77318 v hv hfit hs

/-- A decoder reset re-arms the lock and takes the variant's mask (R213). -/
theorem decoderReset_decoderLegal (s : State) : (decoderReset s).DecoderLegal := by
  refine ⟨nBanks_pos s.cfg, ?_⟩
  cases hv : s.cfg.variant <;> simp [decoderReset, Config.gppBitsAtReset, hv]

theorem Effect.decoderLegal {s u : State} (hfit : s.cfg.masksFit = true) (hs : s.DecoderLegal) (he : Effect s u) :
    u.DecoderLegal := by
  cases he with
  | gppOut v => exact gppOut_decoderLegal v hfit hs
  | reset => exact (decoderReset_decoderLegal s).congr (by simp) (by simp)
  | _ => exact hs.congr (by simp) (by simp)

/-- No effect writes the configuration (R54). -/
theorem Effect.cfg_eq {s u : State} (he : Effect s u) : u.cfg = s.cfg := by
  cases he <;> simp

/-- A step that answers a next state ran a legal configuration (R9). -/
theorem config_ok_of_step {s t : State} (h : step s = .next t) : s.cfg.ok = true := by
  by_contra hok
  rw [step_of_not_ok (Bool.eq_false_iff.2 hok)] at h
  cases h

/-- Settles O26: the masks of a configuration that runs fit its banks (R9 (a)), and only a GPP write and RESET touch the decoder. -/
theorem stepKeepsDecoderLegal : Obligations.StepKeepsDecoderLegal := by
  intro s t hs h
  obtain ⟨hfit, -⟩ := config_ok_iff.1 (config_ok_of_step h)
  have hkept : t.cfg.masksFit = true ∧ t.DecoderLegal :=
    step_keeps (P := fun u => u.cfg.masksFit = true ∧ u.DecoderLegal) (fun _ _ hu => hu) (fun _ _ hu => hu)
      (fun _ _ ⟨hfit, hu⟩ he => ⟨he.cfg_eq ▸ hfit, he.decoderLegal hfit hu⟩) ⟨hfit, hs⟩ h
  exact hkept.2

end Sys2Proof.Machine

/-! The interrupt arbiter (42_interrupt_arbiter.md): the highest pending level and the byte of an acknowledge cycle, and what raising and
lowering a level does inside and outside the levels there are. -/

namespace Sys2Proof.Machine

/-! ### The acknowledge byte (R244 to R246) -/

/-- Among positions looked at highest first, the highest bit set is the one found. -/
theorem highestOf_eq_some {p : Byte} {l : List Nat} (hl : l.Pairwise (· > ·)) {n : Nat} (hn : n ∈ l) (hset : p.getLsbD n = true)
    (habove : ∀ m, n < m → p.getLsbD m = false) : highestOf p l = some n := by
  induction l with
  | nil => cases hn
  | cons i l ih =>
    obtain ⟨hi, hl⟩ := List.pairwise_cons.1 hl
    rcases List.mem_cons.1 hn with rfl | hn
    · exact if_pos hset
    · have hclear : p.getLsbD i = false := habove i (hi n hn)
      calc highestOf p (i :: l) = highestOf p l := if_neg (by simp [hclear])
        _ = some n := ih hl hn

/-- The reference function gives `RST n` for the highest pending level (R245). -/
theorem intaReference_of_highest {p : Byte} {n : Nat} (hn : n < 8) (hset : p.getLsbD n = true)
    (habove : ∀ m, n < m → p.getLsbD m = false) : intaReference p = 0xC7#8 ||| (BitVec.ofNat 8 n <<< 3) := by
  have hmem : n ∈ [7, 6, 5, 4, 3, 2, 1, 0] := by
    simp only [List.mem_cons, List.not_mem_nil, or_false]
    omega
  rw [intaReference, highestOf_eq_some (by decide) hmem hset habove]

/-- The reference function floats where no level is pending (R245). -/
theorem intaReference_zero : intaReference 0x00#8 = 0xFF#8 := rfl

/-- A table answers the byte it holds for a pending set inside it. -/
theorem getElem?_intaByte_table {bytes : List Byte} {p : Byte} (h : p.toNat < bytes.length) :
    bytes[p.toNat]? = some (intaByte (.table bytes) p) := by
  rw [intaByte, List.getD_eq_getElem _ _ h, List.getElem?_eq_getElem h]

theorem exec_inta (a : Addr) (s : State) : exec (.inta a) s = .next (s.setReturned (some (intaVector s))) := rfl

/-- Settles O27: the byte is `intaVector`, by the kind of vector function the configuration has. -/
theorem intaReturnsTheVector : Obligations.IntaReturnsTheVector := by
  intro s a
  refine ⟨intaVector s, exec_inta a s, fun href hnone => ?_, fun n href hn hset habove => ?_, fun bytes htable hin => ?_⟩
  · rw [intaVector, href, hnone]
    exact intaReference_zero
  · rw [intaVector, href]
    exact intaReference_of_highest hn hset habove
  · rw [intaVector, htable]
    exact getElem?_intaByte_table hin

/-! ### Raising and lowering a level (R240 to R243) -/

/-- The mask of a level has that level's bit alone (R38). -/
theorem getLsbD_levelBit (l : Nat) {k : Nat} (hk : k < 8) : (levelBit l).getLsbD k = decide (k = l) := by
  rw [levelBit, BitVec.getLsbD_shiftLeft, BitVec.getLsbD_one]
  rcases Nat.lt_trichotomy k l with h | rfl | h
  · simp [h, h.ne]
  · simp [hk]
  · simp [hk, h.ne', Nat.not_lt.2 h.le, Nat.sub_ne_zero_of_lt h]

/-- Raising a level sets its bit of the pending set. -/
theorem getLsbD_or_levelBit (p : Byte) (l : Nat) {k : Nat} (hk : k < 8) :
    (p ||| levelBit l).getLsbD k = (decide (k = l) || p.getLsbD k) := by
  rw [BitVec.getLsbD_or, getLsbD_levelBit l hk, Bool.or_comm]

/-- Lowering a level clears its bit of the pending set. -/
theorem getLsbD_and_not_levelBit (p : Byte) (l : Nat) {k : Nat} (hk : k < 8) :
    (p &&& ~~~levelBit l).getLsbD k = (!decide (k = l) && p.getLsbD k) := by
  rw [BitVec.getLsbD_and, BitVec.getLsbD_not, getLsbD_levelBit l hk, decide_eq_true hk, Bool.true_and, Bool.and_comm]

section Levels
variable {s : State} {l : Nat}

theorem raiseInt_of_lt (h : l < s.cfg.intLevels.val) :
    raiseInt l s = (s.setPending (s.pending ||| levelBit l)).called (.raiseInt l) := if_neg (Nat.not_le.2 h)

theorem lowerInt_of_lt (h : l < s.cfg.intLevels.val) :
    lowerInt l s = (s.setPending (s.pending &&& ~~~levelBit l)).called (.lowerInt l) := if_neg (Nat.not_le.2 h)

theorem raiseInt_of_le (h : s.cfg.intLevels.val ≤ l) : raiseInt l s = s.logged (.intLevelRange l) := if_pos h

theorem lowerInt_of_le (h : s.cfg.intLevels.val ≤ l) : lowerInt l s = s.logged (.intLevelRange l) := if_pos h

end Levels

theorem exec_raiseInt (l : BitVec 3) (s : State) : exec (.raiseInt l) s = done (raiseInt l.toNat s) := rfl

theorem exec_lowerInt (l : BitVec 3) (s : State) : exec (.lowerInt l) s = done (lowerInt l.toNat s) := rfl

theorem exec_raiseNmi (s : State) : exec .raiseNmi s = done (s.called .raiseNmi) := rfl

/-- Settles O28: an IQ word is the direct call with its level, which `intLevels` splits in two. -/
theorem interruptLineOperations : Obligations.InterruptLineOperations := by
  refine ⟨fun s l h => ⟨⟨s.pending ||| levelBit l.toNat, ?_, fun k => getLsbD_or_levelBit s.pending l.toNat⟩,
      ⟨s.pending &&& ~~~levelBit l.toNat, ?_, fun k => getLsbD_and_not_levelBit s.pending l.toNat⟩⟩,
    fun s l h => ⟨?_, ?_⟩, fun s l height => ?_, fun s l h => ⟨raiseInt_of_le h, lowerInt_of_le h⟩, exec_raiseNmi⟩
  · rw [exec_raiseInt, raiseInt_of_lt h]
    rfl
  · rw [exec_lowerInt, lowerInt_of_lt h]
    rfl
  · rw [exec_raiseInt, raiseInt_of_le h]
    rfl
  · rw [exec_lowerInt, lowerInt_of_le h]
    rfl
  · rw [height]
    exact l.isLt

end Sys2Proof.Machine

/-! The parallel link (43_parallel_link.md): its data path, the signals and who hears them, DTAK and the data write by link state, and the
step of each link state but Ready. -/

namespace Sys2Proof.Machine

/-! ### The data path (R260 to R263) -/

/-- A byte sent by the drive, as one update of the state (R261). -/
theorem sendDrive_eq (v : Byte) (s : State) :
    sendDrive v s = { s with
      link := { s.link with data := v, dataFromHost := false, dataFromDrive := true }
      log := if s.link.dataFromHost = true then s.log ++ [.linkContention .drive] else s.log } := by
  unfold sendDrive
  split <;> rfl

/-- Settles O29: the two sends as one update each, and the two reads as the model writes them. -/
theorem linkDataPath : Obligations.LinkDataPath := by
  refine fun s v => ⟨?_, ?_, rfl, rfl⟩
  · calc exec (.sendHost v) s = done (sendHost v s) := rfl
      _ = _ := by rw [sendHost_eq]; rfl
  · calc exec (.sendDrive v) s = done (sendDrive v s) := rfl
      _ = _ := by rw [sendDrive_eq]; rfl

/-! ### Who hears a signal (R264, R295) -/

/-- The byte an operation returns is no part of the request. -/
theorem done_settleIrq (s : State) : done (settleIrq s) = .next (settleIrq (s.setReturned none)) := by
  rw [settleIrq_setReturned]
  rfl

section Heard
variable {s : State}

/-- A drive-owned signal that the registered card hears. -/
theorem done_hostSignal_of_card (l : Link) (hlevel : s.cfg.z47IntLevel < s.cfg.intLevels.val) (hcard : s.cfg.host = some .card) :
    done (hostSignal (s.setLink l)) = .next (settleIrq { s with link := l, returned := none }) := by
  rw [hostSignal_card (s.setLink l) hlevel hcard, done_settleIrq]
  rfl

/-- A drive-owned signal that another host hears, or none. -/
theorem done_hostSignal_of_not_card (l : Link) (hcard : s.cfg.host ≠ some .card) :
    done (hostSignal (s.setLink l)) = .next { s with link := l, returned := none } := by
  rw [hostSignal_not_card (s.setLink l) hcard]
  rfl

/-- A raised signal reaches the registered controller. -/
theorem deviceSignal_true (handle : State → State) (hdevice : s.cfg.device = some .controller) :
    deviceSignal true handle s = handle s := by
  simp [deviceSignal, hdevice]

/-- A device outside the block, or none, leaves the block's state alone. -/
theorem deviceSignal_not_controller (b : Bool) (handle : State → State) (hdevice : s.cfg.device ≠ some .controller) :
    deviceSignal b handle s = s := by
  unfold deviceSignal
  split
  · contradiction
  · rfl
  · rfl

/-- A host-owned signal that another device than the controller hears, or none. -/
theorem done_deviceSignal_of_not_controller (b : Bool) (handle : State → State) (l : Link)
    (hdevice : s.cfg.device ≠ some .controller) :
    done (deviceSignal b handle (s.setLink l)) = .next { s with link := l, returned := none } := by
  rw [deviceSignal_not_controller (s := s.setLink l) b handle hdevice]
  rfl

end Heard

/-- Settles O30: each operation is its shadow's write, heard by the peer at the other end. -/
theorem signalsWriteTheirShadow : Obligations.SignalsWriteTheirShadow := fun s _ hlevel =>
  ⟨fun hcard =>
    have heard (l : Link) := done_hostSignal_of_card l hlevel hcard
    ⟨heard _, heard _, heard _, heard _⟩,
  fun hother =>
    have unheard (l : Link) := done_hostSignal_of_not_card (s := s) l hother
    ⟨unheard _, unheard _, unheard _, unheard _⟩,
  fun hother => ⟨done_deviceSignal_of_not_controller _ _ _ hother, done_deviceSignal_of_not_controller _ _ _ hother⟩⟩

/-! ### The master reset (R271, R325, R350) -/

/-- What changes no part of the card's condition may change before or after the request is settled. -/
theorem settleIrq_setLink {s : State} {l : Link} (h : irqWanted s.hif l = irqWanted s.hif s.link) :
    settleIrq (s.setLink l) = (settleIrq s).setLink l := by
  unfold settleIrq
  rw [apply_ite (State.setLink · l), apply_ite (State.setLink · l), State.setLink_hif, State.setLink_link, h]
  rfl

/-- A settled request stays settled while nothing changes the card's condition. -/
theorem settleIrq_setLink_settleIrq {s : State} {l : Link} (h : irqWanted s.hif l = irqWanted s.hif s.link) :
    settleIrq ((settleIrq s).setLink l) = settleIrq (s.setLink l) := by
  have hcurrent : irqWanted (settleIrq s).hif l = (settleIrq s).hif.irq := by simpa [irqWanted] using h
  rw [settleIrq_setLink h]
  exact settleIrq_of_current ((settleIrq s).setLink l) hcurrent

section Card
variable {s : State} (hlevel : s.cfg.z47IntLevel < s.cfg.intLevels.val) (hcard : s.cfg.host = some .card)
include hlevel hcard

/-- The registered card settles its request when DDOut changes (R295). -/
theorem setDdout_of_card (b : Bool) : setDdout b s = settleIrq (s.setLink { s.link with ddOut := b }) :=
  hostSignal_card (s.setLink _) hlevel hcard

/-- The registered card settles its request when Error changes (R295). -/
theorem setError_of_card (b : Bool) : setError b s = settleIrq (s.setLink { s.link with error := b }) :=
  hostSignal_card (s.setLink _) hlevel hcard

/-- DDOut is no part of the card's condition: while its request is current it does not act on it. -/
theorem setDdout_of_current (b : Bool) (hcurrent : s.RequestCurrent) : setDdout b s = s.setLink { s.link with ddOut := b } :=
  (setDdout_of_card hlevel hcard b).trans (settleIrq_of_current (s.setLink _) (hcurrent hcard).symm)

/-- The master reset as one update: with Busy low the card's condition is its enable alone, so that the three signals that follow
leave the request as it is. -/
theorem masterReset_eq_settleIrq :
    masterReset s = settleIrq { s with
      z47 := Z47.initial, link := { s.link with busy := false, ddOut := false, error := false, dtr := true } } := by
  unfold masterReset
  rw [setBusy_of_card (by simpa using hlevel) (by simpa using hcard), setDdout_of_card (by simpa using hlevel) (by simpa using hcard),
    settleIrq_setLink_settleIrq (by simp [irqWanted]), setError_of_card (by simpa using hlevel) (by simpa using hcard),
    settleIrq_setLink_settleIrq (by simp [irqWanted]), setDtr_of_card (by simpa using hlevel) (by simpa using hcard),
    settleIrq_setLink_settleIrq (by simp [irqWanted])]
  simp [State.setLink, State.setZ47]

end Card

/-- Settles O31: the raised signal is the controller's master reset, the lowered one its shadow's write. -/
theorem masterResetReinitialises : Obligations.MasterResetReinitialises := by
  refine fun s hlevel hcard hdevice => ⟨?_, ?_⟩
  · calc exec (.setMr true) s = done (masterReset (s.setLink { s.link with masterReset := true })) :=
          congrArg done (deviceSignal_true masterReset (by simpa using hdevice))
      _ = _ := by
          rw [masterReset_eq_settleIrq (by simpa using hlevel) (by simpa using hcard), done_settleIrq]
          rfl
  · calc exec (.setMr false) s = done (setMr false s) := rfl
      _ = _ := by rw [setMr_false]; rfl

/-! ### DTAK by link state (R274, R326) -/

section Acknowledged
variable {s : State}

/-- The host's acknowledge takes the byte a controller offers. -/
theorem onDtak_of_offering (hlink : s.z47.linkState = .awaitingTransmitComplete) :
    onDtak s = s.setZ47 { s.z47 with linkState := .holdingDTR } := by
  simp [onDtak, hlink]

/-- A controller that offers no byte, and waits for none or finds none, does not act on DTAK. -/
theorem onDtak_of_neither (hoffers : s.z47.linkState ≠ .awaitingTransmitComplete)
    (hwaits : ¬(s.z47.linkState = .awaitingToReceive ∧ s.link.dataFromHost = true)) : onDtak s = s := by
  cases hlink : s.z47.linkState with
  | awaitingToReceive =>
    have hnone : s.link.dataFromHost ≠ true := fun hbyte => hwaits ⟨hlink, hbyte⟩
    simp [onDtak, hlink, hnone]
  | awaitingTransmitComplete => exact absurd hlink hoffers
  | _ => simp [onDtak, hlink]

variable (hdevice : s.cfg.device = some .controller)
include hdevice

theorem setDtak_true : setDtak true s = onDtak (s.setLink { s.link with dtak := true }) :=
  deviceSignal_true onDtak (by simpa using hdevice)

/-- A raised DTAK while the controller waits, with a byte of the host on the link. -/
theorem setDtak_true_of_waiting (hlevel : s.cfg.z47IntLevel < s.cfg.intLevels.val) (hcard : s.cfg.host = some .card)
    (hlink : s.z47.linkState = .awaitingToReceive) (hbyte : s.link.dataFromHost = true) :
    setDtak true s = settleIrq { s with
      z47 := { s.z47 with rxByte := s.link.data, rxPending := true, linkState := .ready }
      link := { s.link with dtak := true, dataFromHost := false, dtr := false } } := by
  rw [setDtak_true hdevice,
    onDtak_of_waiting (by simpa using hlevel) (by simpa using hcard) (by simpa using hlink) (by simpa using hbyte)]
  rfl

/-- A raised DTAK while the controller offers a byte. -/
theorem setDtak_true_of_offering (hlink : s.z47.linkState = .awaitingTransmitComplete) :
    setDtak true s = { s with
      z47 := { s.z47 with linkState := .holdingDTR }, link := { s.link with dtak := true } } := by
  rw [setDtak_true hdevice, onDtak_of_offering (by simpa using hlink)]
  rfl

/-- A raised DTAK in any other case. -/
theorem setDtak_true_of_neither (hoffers : s.z47.linkState ≠ .awaitingTransmitComplete)
    (hwaits : ¬(s.z47.linkState = .awaitingToReceive ∧ s.link.dataFromHost = true)) :
    setDtak true s = s.setLink { s.link with dtak := true } := by
  rw [setDtak_true hdevice, onDtak_of_neither (by simpa using hoffers) (by simpa using hwaits)]

end Acknowledged

theorem exec_setDtak (b : Bool) (s : State) : exec (.setDtak b) s = done (setDtak b s) := rfl

/-- Settles O32: a raised DTAK by link state, and a lowered one. -/
theorem dtakActsByLinkState : Obligations.DtakActsByLinkState := by
  refine fun s hlevel hcard hdevice => ⟨fun hlink hbyte => ?_, fun hlink => ?_, fun hoffers hwaits => ?_, ?_⟩
  · rw [exec_setDtak, setDtak_true_of_waiting hdevice hlevel hcard hlink hbyte, done_settleIrq]
    rfl
  · rw [exec_setDtak, setDtak_true_of_offering hdevice hlink]
    rfl
  · rw [exec_setDtak, setDtak_true_of_neither hdevice hoffers hwaits]
    rfl
  · rw [exec_setDtak, setDtak_false]
    rfl

/-! ### The data write by link state (R260, R293, R294, R326) -/

/-- A data write, in both spellings, is the write handler of the card's second port. -/
theorem exec_dataWrite {s : State} {v : Byte} {p base : Port} {n : Nat} {i : Instr} (howner : s.cfg.owner p = some ⟨.hif, base, n⟩)
    (hp : p.toNat = base.toNat + 1) (hi : i = .out p v ∨ (i = .z47Dout v ∧ p = s.cfg.codes.z47DataPort)) :
    exec i s = done (cardDataOut v s) := by
  have hwrite : exec i s = done (ioOut p v s) := by
    rcases hi with rfl | ⟨rfl, rfl⟩ <;> rfl
  have hoff : p.toNat - base.toNat = 1 := by omega
  rw [hwrite, ioOut_of_owner v howner, hoff]
  rfl

section DataWrite
variable {s : State} (hdevice : s.cfg.device = some .controller)
include hdevice

/-- A byte the host sends over the one that the controller offers, which is lost. -/
theorem cardDataOut_of_offering (v : Byte) (hlink : s.z47.linkState = .awaitingTransmitComplete) :
    cardDataOut v s = { s with
      z47 := { s.z47 with linkState := .holdingDTR }
      link := { s.link with data := v, dataFromHost := true, dataFromDrive := false, dtak := false }
      log := if s.link.dataFromDrive = true then s.log ++ [.linkContention .host] else s.log } := by
  unfold cardDataOut dtakPulse
  rw [setDtak_true_of_offering (by simpa using hdevice) (by simpa using hlink), setDtak_false, sendHost_eq]
  rfl

/-- A byte the host sends to a controller that neither offers one nor waits for one stays in the latch. -/
theorem cardDataOut_of_neither (v : Byte) (hoffers : s.z47.linkState ≠ .awaitingTransmitComplete)
    (hwaits : s.z47.linkState ≠ .awaitingToReceive) :
    cardDataOut v s = { s with
      link := { s.link with data := v, dataFromHost := true, dataFromDrive := false, dtak := false }
      log := if s.link.dataFromDrive = true then s.log ++ [.linkContention .host] else s.log } := by
  have hidle : ¬((sendHost v s).z47.linkState = .awaitingToReceive ∧ (sendHost v s).link.dataFromHost = true) := by simp [hwaits]
  unfold cardDataOut dtakPulse
  rw [setDtak_true_of_neither (by simpa using hdevice) (by simpa using hoffers) hidle, setDtak_false, sendHost_eq]
  rfl

end DataWrite

/-- Settles O37: the byte sent and acknowledged, by the link state that hears the acknowledge. -/
theorem dataWriteAcknowledges : Obligations.DataWriteAcknowledges := by
  rintro s v p base n i entries howner hp hi hlevel hcard hdevice rfl
  have hwrite : exec i s = done (cardDataOut v s) := exec_dataWrite howner hp hi
  refine ⟨fun hlink => ?_, fun hlink => ?_, fun hoffers hwaits => ?_⟩
  · rw [hwrite, cardDataOut_of_waiting hlevel hcard v hdevice hlink, done_settleIrq]
    rfl
  · rw [hwrite, cardDataOut_of_offering hdevice v hlink]
    rfl
  · rw [hwrite, cardDataOut_of_neither hdevice v hoffers hwaits]
    rfl

/-! ### The link step by link state (R261, R321, R323) -/

/-- While the host has the turn, to send a byte or to take one, the link step does nothing. -/
theorem linkStep_of_host_turn {s : State}
    (hlink : s.z47.linkState = .awaitingToReceive ∨ s.z47.linkState = .awaitingTransmitComplete) : linkStep s = s := by
  rcases hlink with h | h <;> simp [linkStep, h]

section LinkStep
variable {s : State} (hlevel : s.cfg.z47IntLevel < s.cfg.intLevels.val) (hcard : s.cfg.host = some .card)
include hlevel hcard

/-- The controller asks for a byte: DTR rises, and the card settles its request. -/
theorem linkStep_eq_of_asking (hlink : s.z47.linkState = .awaitingToReqReceive) :
    linkStep s = settleIrq { s with
      z47 := { s.z47 with linkState := .awaitingToReceive }, link := { s.link with dtr := true } } := by
  rw [linkStep_of_asking hlink, setDtr_of_card hlevel hcard, ← settleIrq_setZ47]
  rfl

/-- The controller lets DTR fall after the host has taken its byte. -/
theorem linkStep_eq_of_holding (hlink : s.z47.linkState = .holdingDTR) :
    linkStep s = settleIrq { s with
      z47 := { s.z47 with linkState := .awaitingReadyState }, link := { s.link with dtr := false } } := by
  have hstep : linkStep s = (setDtr false s).setZ47 { s.z47 with linkState := .awaitingReadyState } := by simp [linkStep, hlink]
  rw [hstep, setDtr_of_card hlevel hcard, ← settleIrq_setZ47]
  rfl

/-- The controller offers its byte: DDOut is no part of the card's condition, so DTR alone may change the request. -/
theorem linkStep_eq_of_transmitting (hcurrent : s.RequestCurrent) (hlink : s.z47.linkState = .awaitingToTransmit) :
    linkStep s = settleIrq { s with
      z47 := { s.z47 with linkState := .awaitingTransmitComplete }
      link := { s.link with data := s.z47.txByte, dataFromHost := false, dataFromDrive := true, ddOut := true, dtr := true }
      log := if s.link.dataFromHost = true then s.log ++ [.linkContention .drive] else s.log } := by
  have hstep : linkStep s =
      (setDtr true (setDdout true (sendDrive s.z47.txByte s))).setZ47 { s.z47 with linkState := .awaitingTransmitComplete } := by
    simp [linkStep, hlink]
  rw [hstep, setDdout_of_current (by simpa using hlevel) (by simpa using hcard) true (sendDrive_requestCurrent _ hcurrent),
    setDtr_of_card (by simpa using hlevel) (by simpa using hcard), ← settleIrq_setZ47, sendDrive_eq]
  rfl

/-- The controller lowers DDOut, where it is high, and is Ready; the card does not act on it. -/
theorem linkStep_eq_of_settled (hcurrent : s.RequestCurrent) (hlink : s.z47.linkState = .awaitingReadyState) :
    linkStep s = { s with z47 := { s.z47 with linkState := .ready }, link := { s.link with ddOut := false } } := by
  have hlower : (if s.link.ddOut = true then setDdout false s else s) = s.setLink { s.link with ddOut := false } := by
    split
    next => exact setDdout_of_current hlevel hcard false hcurrent
    next hlow =>
      rw [Bool.not_eq_true] at hlow
      rw [← hlow]
      rfl
  simp only [linkStep, hlink]
  rw [hlower]
  rfl

end LinkStep

/-- Settles O40: a notification at countdown 0 runs the link step, which makes the one move of its link state. -/
theorem linkStepByLinkState : Obligations.LinkStepByLinkState := by
  intro s c hclocked hzero hlevel hcard hcurrent
  have htick : exec (.tick c) s = done (linkStep s) := exec_tick_of_expired c hclocked hzero
  refine ⟨fun hlink => ?_, fun hlink => ?_, fun hlink => ?_, fun hlink => ?_, fun hlink => ?_⟩
  · rw [htick, linkStep_eq_of_asking hlevel hcard hlink, done_settleIrq]
    rfl
  · rw [htick, linkStep_of_host_turn hlink]
    rfl
  · rw [htick, linkStep_eq_of_transmitting hlevel hcard hcurrent hlink, done_settleIrq]
    rfl
  · rw [htick, linkStep_eq_of_holding hlevel hcard hlink, done_settleIrq]
    rfl
  · rw [htick, linkStep_eq_of_settled hlevel hcard hcurrent hlink]
    rfl

end Sys2Proof.Machine

/-! The Z47 host interface (44_z47_host_interface.md): what a command byte does to the card and the controller, and the data read by link
state. -/

namespace Sys2Proof.Machine

/-! ### The command byte (R291, R297, R350) -/

/-- A command write, in both spellings, is the write handler of the card's first port. -/
theorem exec_commandWrite {s : State} {v : Byte} {p : Port} {n : Nat} {i : Instr} (howner : s.cfg.owner p = some ⟨.hif, p, n⟩)
    (hi : i = .out p v ∨ (i = .z47Cmd v ∧ p = s.cfg.codes.z47PortBase)) : exec i s = done (cardCommand v s) := by
  have hwrite : exec i s = done (ioOut p v s) := by
    rcases hi with rfl | ⟨rfl, rfl⟩ <;> rfl
  rw [hwrite, ioOut_of_owner v howner, Nat.sub_self]
  rfl

/-- A request just settled is the wanted one. -/
theorem settleIrq_settleIrq (s : State) : settleIrq (settleIrq s) = settleIrq s :=
  settleIrq_of_current _ (by simp [irqWanted])

section Command
variable {s : State}

/-- A command byte that repeats the master-reset bit signals nothing. -/
theorem cardMasterReset_of_unchanged {b : Bool} (hsame : b = s.hif.mr) : cardMasterReset b s = s := if_pos hsame

/-- The rising bit is heard by the controller, which resets (R350). -/
theorem cardMasterReset_of_rising (hlow : s.hif.mr = false) (hlevel : s.cfg.z47IntLevel < s.cfg.intLevels.val)
    (hcard : s.cfg.host = some .card) (hdevice : s.cfg.device = some .controller) :
    cardMasterReset true s = settleIrq { s with
      hif := { s.hif with mr := true }
      z47 := Z47.initial
      link := { s.link with masterReset := true, busy := false, ddOut := false, error := false, dtr := true } } := by
  have hchange : true ≠ s.hif.mr := by simp [hlow]
  rw [cardMasterReset, if_neg hchange, setMr, deviceSignal_true masterReset (by simpa using hdevice),
    masterReset_eq_settleIrq (by simpa using hlevel) (by simpa using hcard)]
  rfl

/-- The falling bit only writes the line's shadow (R325). -/
theorem cardMasterReset_of_falling (hhigh : s.hif.mr = true) :
    cardMasterReset false s = { s with hif := { s.hif with mr := false }, link := { s.link with masterReset := false } } := by
  have hchange : false ≠ s.hif.mr := by simp [hhigh]
  rw [cardMasterReset, if_neg hchange, setMr_false]
  rfl

/-- The two enables are written, the master-reset bit is signalled where it changes, and the request is settled. -/
theorem cardCommand_eq_settleIrq (v : Byte) (hlevel : s.cfg.z47IntLevel < s.cfg.intLevels.val) :
    cardCommand v s = settleIrq
      (cardMasterReset (v.getLsbD 1) (s.setHif { s.hif with ie := v.getLsbD 6, u137b := v.getLsbD 0 })) :=
  recomputeIrq_eq_settleIrq _ (by simpa using hlevel)

end Command

/-- Settles O35: the three cases of the master-reset bit. The request that the master reset has settled stays as it is when the command
byte settles it again. -/
theorem commandByteWritesTheCard : Obligations.CommandByteWritesTheCard := by
  intro s v p n i howner hi hlevel hcard hdevice
  rw [exec_commandWrite howner hi, cardCommand_eq_settleIrq v hlevel]
  refine ⟨fun hsame => ?_, fun hbit hlow => ?_, fun hbit hhigh => ?_⟩
  · rw [cardMasterReset_of_unchanged (by simpa using hsame), done_settleIrq]
    rfl
  · rw [hbit, cardMasterReset_of_rising (by simpa using hlow) (by simpa using hlevel) (by simpa using hcard)
      (by simpa using hdevice), settleIrq_settleIrq, done_settleIrq]
    rfl
  · rw [hbit, cardMasterReset_of_falling (by simpa using hhigh), done_settleIrq]
    rfl

/-! ### The data read by link state (R262, R292, R294, R326) -/

/-- A data read, in both spellings, is the read handler of the card's second port. -/
theorem exec_dataRead {s : State} {p base : Port} {n : Nat} {i : Instr} (howner : s.cfg.owner p = some ⟨.hif, base, n⟩)
    (hp : p.toNat = base.toNat + 1) (hi : i = .inp p ∨ (i = .z47Din ∧ p = s.cfg.codes.z47DataPort)) :
    exec i s = answer (cardDataIn s) := by
  have hread : exec i s = answer (ioIn p s) := by
    rcases hi with rfl | ⟨rfl, rfl⟩ <;> rfl
  have hoff : p.toNat - base.toNat = 1 := by omega
  rw [hread, ioIn_of_owner howner, hoff]
  rfl

/-- The byte an operation returns is no part of the request. -/
theorem answer_settleIrq (b : Byte) (s : State) : answer (b, settleIrq s) = .next (settleIrq (s.setReturned (some b))) := by
  rw [settleIrq_setReturned]
  rfl

/-- The latch is read, then acknowledged by a pulse of DTAK (R292, R294). -/
theorem cardDataIn_eq (s : State) :
    cardDataIn s = (s.link.data, setDtak false (setDtak true (s.setLink { s.link with dataFromDrive := false }))) := rfl

section DataRead
variable {s : State} (hdevice : s.cfg.device = some .controller)
include hdevice

/-- The host takes the byte that the controller offers. -/
theorem cardDataIn_of_offering (hlink : s.z47.linkState = .awaitingTransmitComplete) :
    cardDataIn s = (s.link.data, { s with
      z47 := { s.z47 with linkState := .holdingDTR }
      link := { s.link with dataFromDrive := false, dtak := false } }) := by
  rw [cardDataIn_eq, setDtak_true_of_offering (by simpa using hdevice) (by simpa using hlink), setDtak_false]
  rfl

/-- A read acknowledges a stale byte of the host too: the waiting controller takes it. -/
theorem cardDataIn_of_stale (hlevel : s.cfg.z47IntLevel < s.cfg.intLevels.val) (hcard : s.cfg.host = some .card)
    (hlink : s.z47.linkState = .awaitingToReceive) (hbyte : s.link.dataFromHost = true) :
    cardDataIn s = (s.link.data, settleIrq { s with
      z47 := { s.z47 with rxByte := s.link.data, rxPending := true, linkState := .ready }
      link := { s.link with dataFromDrive := false, dataFromHost := false, dtr := false, dtak := false } }) := by
  rw [cardDataIn_eq, setDtak_true_of_waiting (by simpa using hdevice) (by simpa using hlevel) (by simpa using hcard) (by simpa using hlink)
    (by simpa using hbyte), setDtak_false_settleIrq]
  rfl

/-- A read that no controller waits for leaves it alone. -/
theorem cardDataIn_of_neither (hoffers : s.z47.linkState ≠ .awaitingTransmitComplete)
    (hwaits : ¬(s.z47.linkState = .awaitingToReceive ∧ s.link.dataFromHost = true)) :
    cardDataIn s = (s.link.data, s.setLink { s.link with dataFromDrive := false, dtak := false }) := by
  rw [cardDataIn_eq, setDtak_true_of_neither (by simpa using hdevice) (by simpa using hoffers) (by simpa using hwaits), setDtak_false]
  rfl

end DataRead

/-- Settles O36: the latch read and acknowledged, by the link state that hears the acknowledge. -/
theorem dataReadAcknowledges : Obligations.DataReadAcknowledges := by
  intro s p base n i howner hp hi hlevel hcard hdevice
  rw [exec_dataRead howner hp hi]
  refine ⟨fun hlink => ?_, fun hlink hbyte => ?_, fun hoffers hwaits => ?_⟩
  · rw [cardDataIn_of_offering hdevice hlink]
    rfl
  · rw [cardDataIn_of_stale hdevice hlevel hcard hlink hbyte, answer_settleIrq]
    rfl
  · rw [cardDataIn_of_neither hdevice hoffers hwaits]
    rfl

end Sys2Proof.Machine

/-! The Z47 controller (45_z47_controller.md): what reaches it, the moves of its link state, the commands it starts and runs, its error
latches, and the bytes that a read hands the host. -/

namespace Sys2Proof.Machine

/-! ### What reaches the controller (R327, R352) -/

/-- A command byte that repeats the master-reset bit does not reach the controller. -/
theorem cardCommand_keeps_z47 {v : Byte} {s : State} (hsame : v.getLsbD 1 = s.hif.mr) : (cardCommand v s).z47 = s.z47 := by
  rw [cardCommand, cardMasterReset_of_unchanged (by simpa using hsame)]
  simp

/-- A device's read handler leaves the controller, but past the card's first port. -/
theorem deviceIn_keeps_z47 {d : Device} {off : Nat} (s : State) (h : d = .hif → off = 0) : (deviceIn d off s).2.z47 = s.z47 := by
  unfold deviceIn
  split
  · rfl
  · rfl
  · exact absurd (h rfl) (by simp)
  all_goals simp

/-- A device's write handler leaves the controller, but past the card's first port and where the master-reset bit changes. -/
theorem deviceOut_keeps_z47 {d : Device} {off : Nat} {v : Byte} {s : State} (h : d = .hif → off = 0 ∧ v.getLsbD 1 = s.hif.mr) :
    (deviceOut d off v s).z47 = s.z47 := by
  unfold deviceOut
  split
  · simp
  · exact cardCommand_keeps_z47 (h rfl).2
  · exact absurd (h rfl).1 (by simp)
  all_goals rfl

theorem ioIn_keeps_z47 {p : Port} {s : State} (h : ∀ k, s.cfg.owner p = some k → k.dev ≠ .hif ∨ k.base = p) :
    (ioIn p s).2.z47 = s.z47 := by
  cases howner : s.cfg.owner p with
  | none => rw [ioIn_of_unclaimed howner]
  | some k =>
    rw [ioIn_of_owner howner]
    refine deviceIn_keeps_z47 s fun hdev => ?_
    have hbase : k.base = p := (h k howner).resolve_left (not_not_intro hdev)
    rw [hbase, Nat.sub_self]

theorem ioOut_keeps_z47 {p : Port} {v : Byte} {s : State}
    (h : ∀ k, s.cfg.owner p = some k → k.dev ≠ .hif ∨ (k.base = p ∧ v.getLsbD 1 = s.hif.mr)) : (ioOut p v s).z47 = s.z47 := by
  cases howner : s.cfg.owner p with
  | none => rw [ioOut_of_unclaimed v howner]
  | some k =>
    rw [ioOut_of_owner v howner]
    refine deviceOut_keeps_z47 fun hdev => ?_
    obtain ⟨hbase, hsame⟩ := (h k howner).resolve_left (not_not_intro hdev)
    exact ⟨by rw [hbase, Nat.sub_self], hsame⟩

/-- The card's reset lowers its two signals, which the controller does not act on (R296, R352). -/
@[simp] theorem deviceReset_z47 (d : Device) (s : State) : (deviceReset d s).z47 = s.z47 := by
  cases d with
  | gpp => simp [deviceReset]
  | hif => simp [deviceReset, cardReset]
  | external n => rfl

/-- The reset broadcast does not reach the controller (R352). -/
@[simp] theorem ioReset_z47 (s : State) : (ioReset s).z47 = s.z47 := ioReset_keeps s State.z47 (by simp)

/-- Settles O42: an IN or an OUT is known by its port's owner; of the other operations each keeps the controller by its frame. -/
theorem controllerActsOnlyWhenCalled : Obligations.ControllerActsOnlyWhenCalled := by
  intro i s t h hcalled
  cases i with
  | inp p =>
    cases h
    exact ioIn_keeps_z47 hcalled
  | out p v =>
    cases h
    exact ioOut_keeps_z47 hcalled
  | tick c =>
    rw [exec_tick_of_unclocked c hcalled] at h
    cases h
    rfl
  | gppWr v =>
    obtain ⟨hgpp, -⟩ := wired_iff.1 hcalled
    cases h
    refine ioOut_keeps_z47 fun k hk => .inl ?_
    cases hgpp.symm.trans hk
    simp
  | gppRd =>
    obtain ⟨hgpp, -⟩ := wired_iff.1 hcalled
    cases h
    refine ioIn_keeps_z47 fun k hk => .inl ?_
    cases hgpp.symm.trans hk
    simp
  | z47Stat =>
    obtain ⟨-, hbase, -⟩ := wired_iff.1 hcalled
    cases h
    refine ioIn_keeps_z47 fun k hk => .inr ?_
    cases hbase.symm.trans hk
    rfl
  | z47Cmd v =>
    obtain ⟨hsame, hwired⟩ := hcalled
    obtain ⟨-, hbase, -⟩ := wired_iff.1 hwired
    cases h
    refine ioOut_keeps_z47 fun k hk => .inr ⟨?_, hsame⟩
    cases hbase.symm.trans hk
    rfl
  | setMr b =>
    cases hcalled
    cases h
    simp
  | setDtak b =>
    cases hcalled
    cases h
    simp
  | z47Din => exact hcalled.elim
  | z47Dout v => exact hcalled.elim
  | z47Rsb => exact hcalled.elim
  | z47Wsb => exact hcalled.elim
  | z47Rcs => exact hcalled.elim
  | z47Invalid b => exact hcalled.elim
  | _ =>
    cases h
    simp

/-! ### The start of a command (R328, R329, R333) -/

/-- Position 1 of a read and of a write (R340, R341). -/
theorem handler_start {k : CtrlState} (hk : k = .readSectorsBuffered ∨ k = .writeSectorsBuffered) (v : Byte) (s : State) :
    handler k 1 v s = (s, .req) := by
  rcases hk with rfl | rfl <;> rfl

theorem commandOf_cmdRsb (c : Codes) : commandOf c cmdRsb = .readSectorsBuffered := if_pos rfl

theorem commandOf_cmdWsb {c : Codes} (h : c.cmdWsb ≠ cmdRsb) : commandOf c c.cmdWsb = .writeSectorsBuffered := by
  rw [commandOf, if_neg h, if_pos rfl]

theorem commandOf_of_noCommand {c : Codes} {b : Byte} (h : c.noCommand b = true) : commandOf c b = .invalidCommand := by
  obtain ⟨hrsb, hwsb, hrcs⟩ := noCommand_iff.1 h
  rw [commandOf, if_neg hrsb, if_neg hwsb, if_neg hrcs]

/-- A Ready controller with no command and no byte asks for one (R328). -/
theorem linkStep_of_idle {s : State} (hlink : s.z47.linkState = .ready) (hc : s.z47.ctrlState = .none)
    (hnone : s.z47.rxPending = false) : linkStep s = s.setZ47 { s.z47 with linkState := .awaitingToReqReceive } := by
  simp [linkStep, controllerDispatch, hlink, hc, hnone]

theorem atStart_link (b : Byte) (s : State) : (s.atStart b).link = { s.link with dtr := false, busy := true } := by
  simp [State.atStart]

section Card
variable {s : State} (hlevel : s.cfg.z47IntLevel < s.cfg.intLevels.val) (hcard : s.cfg.host = some .card)
  (hcurrent : s.RequestCurrent)
include hlevel hcard hcurrent

/-- DTR falls and Busy rises: of the two only one can lower the card's request, and none raises it. -/
theorem setBusy_setDtr_of_current :
    setBusy true (setDtr false s) = settleIrq (s.setLink { s.link with dtr := false, busy := true }) := by
  rw [setDtr_of_card hlevel hcard, setBusy_of_card (by simpa using hlevel) (by simpa using hcard)]
  cases hbusy : s.link.busy with
  | false =>
    have hkept : irqWanted s.hif { s.link with dtr := false } = s.hif.irq := by
      rw [hcurrent hcard]
      simp [irqWanted, hbusy]
    rw [settleIrq_of_current (s.setLink { s.link with dtr := false }) hkept]
    rfl
  | true =>
    rw [settleIrq_setLink_settleIrq (by simp [irqWanted, hbusy])]
    simp [State.setLink]

/-- The start of a command as one update. -/
theorem atStart_eq_settleIrq (b : Byte) :
    s.atStart b = settleIrq { s with
      z47 := { s.z47 with rxPending := false, ctrlState := commandOf s.cfg.codes b, statePosition := 1 }
      link := { s.link with dtr := false, busy := true } } := by
  have hsignals := setBusy_setDtr_of_current (s := s.setZ47 { s.z47 with rxPending := false }) hlevel hcard hcurrent
  unfold State.atStart
  dsimp only
  rw [hsignals, ← settleIrq_setZ47]
  simp [State.setZ47, State.setLink]

/-- A read or a write starts: it asks for the track. -/
theorem linkStep_eq_of_transfer_received (hlink : s.z47.linkState = .ready) (hc : s.z47.ctrlState = .none)
    (hpending : s.z47.rxPending = true)
    (hk : commandOf s.cfg.codes s.z47.rxByte = .readSectorsBuffered ∨ commandOf s.cfg.codes s.z47.rxByte = .writeSectorsBuffered) :
    linkStep s = settleIrq { s with
      z47 := { s.z47 with
        rxPending := false, statePosition := 1, linkState := .awaitingToReqReceive
        ctrlState := commandOf s.cfg.codes s.z47.rxByte }
      link := { s.link with dtr := false, busy := true } } := by
  have hstart : (s.atStart s.z47.rxByte).z47.ctrlState = commandOf s.cfg.codes s.z47.rxByte := by rw [atStart_z47]
  rw [linkStep_of_received hlink hc hpending, startCommand_eq, hstart, handler_start hk, applyAction,
    atStart_eq_settleIrq hlevel hcard hcurrent]
  dsimp only
  rw [← settleIrq_setZ47]
  simp [State.setZ47]

end Card

/-- Settles O43: a Ready controller with no command dispatches the byte it holds, if it holds one. -/
theorem readyControllerStartsCommands : Obligations.ReadyControllerStartsCommands := by
  intro s c hclocked hzero hlevel hcard hcurrent hlink hc
  refine ⟨fun hnone => ?_, fun hpending hbyte => ?_⟩
  · rw [exec_tick_of_expired c hclocked hzero, linkStep_of_idle hlink hc hnone]
    rfl
  · have hcommand : commandOf s.cfg.codes s.z47.rxByte =
        if s.z47.rxByte = 0x07#8 then .readSectorsBuffered else .writeSectorsBuffered := by
      rcases hbyte with hrsb | ⟨hnot, hwsb⟩
      · rw [if_pos hrsb, hrsb, commandOf_cmdRsb]
      · rw [if_neg hnot, hwsb, commandOf_cmdWsb (hwsb ▸ hnot)]
    have hk : commandOf s.cfg.codes s.z47.rxByte = .readSectorsBuffered ∨
        commandOf s.cfg.codes s.z47.rxByte = .writeSectorsBuffered := by
      rw [hcommand]
      split <;> simp
    rw [exec_tick_of_expired c hclocked hzero, linkStep_eq_of_transfer_received hlevel hcard hcurrent hlink hc hpending hk,
      ← settleIrq_setReturned, hcommand]
    rfl

/-! ### A command word and one notification (R329, R333, R343, R344; log entry 8) -/

/-- A read or a write starts, whatever host there is. -/
theorem linkStep_of_transfer_received {s : State} {k : CtrlState} (hlink : s.z47.linkState = .ready) (hc : s.z47.ctrlState = .none)
    (hpending : s.z47.rxPending = true) (hcommand : commandOf s.cfg.codes s.z47.rxByte = k)
    (hk : k = .readSectorsBuffered ∨ k = .writeSectorsBuffered) :
    (linkStep s).z47 = { s.z47 with
        rxPending := false, ctrlState := k, statePosition := 1, linkState := .awaitingToReqReceive } ∧
      (linkStep s).link = { s.link with dtr := false, busy := true } := by
  subst hcommand
  rw [linkStep_of_received hlink hc hpending, startCommand_eq, atStart_z47, handler_start hk]
  simp [applyAction, atStart_z47, atStart_link]

/-- A byte that names no command latches invalidCommandReceived, and has completed (R344). -/
theorem linkStep_of_invalid_received {s : State} (hlink : s.z47.linkState = .ready) (hc : s.z47.ctrlState = .none)
    (hpending : s.z47.rxPending = true) (hinvalid : commandOf s.cfg.codes s.z47.rxByte = .invalidCommand) :
    (linkStep s).z47 = { s.z47 with
        rxPending := false, ctrlState := .none, statePosition := 0, linkState := .awaitingReadyState, countDown := settleCycles
        err := { s.z47.err with invalidCommandReceived := true } } ∧
      (linkStep s).link = { s.link with dtr := false, busy := false, error := true } := by
  rw [linkStep_of_received hlink hc hpending, startCommand_eq, atStart_z47, hinvalid]
  simp [applyAction, handler, invalidHandler, commandComplete_z47, commandComplete_link, State.setErr, atStart_z47, atStart_link,
    ErrorLatches.any]

/-- The word is sent and taken, and the notification is the link step of a Ready controller with the byte. -/
theorem runOps_commandWord {s : State} {b : Byte} {i : Instr} (c : BitVec 16) (hok : s.cfg.ok = true) (hwired : s.cfg.wired = true)
    (hi : i = .z47Rsb ∧ b = 0x07#8 ∨ i = .z47Wsb ∧ b = s.cfg.codes.cmdWsb ∨ i = .z47Rcs ∧ b = s.cfg.codes.cmdRcs ∨
      i = .z47Invalid b)
    (hlink : s.z47.linkState = .awaitingToReceive) (hzero : s.z47.countDown = 0) :
    ∃ u t, u.cfg = s.cfg ∧ u.z47 = { s.z47 with rxByte := b, rxPending := true, linkState := .ready } ∧
      runOps [i, .tick c] s = some (t, []) ∧ t.z47 = (linkStep u).z47 ∧ t.link = (linkStep u).link := by
  obtain ⟨-, -, -, -, -, hlevel⟩ := config_ok_iff.1 hok
  obtain ⟨-, hsend⟩ := commandWordsSendTheirByte s b i hwired (levelOk_iff.1 hlevel) hi
  have hword := hsend hlink
  generalize hu : settleIrq _ = u at hword
  have hcfg : u.cfg = s.cfg := by simp [← hu]
  have hz : u.z47 = { s.z47 with rxByte := b, rxPending := true, linkState := .ready } := by simp [← hu]
  have hreturned : u.returned = none := by simp [← hu]
  obtain ⟨t, ht, hrt, -, hzt, hlt⟩ :=
    exec_tick_of_linkStep c (by rwa [hcfg]) (by rw [hz]; exact hzero) ⟨rfl, rfl⟩
  refine ⟨u, t, hcfg, hz, (runOps_cons hword (runOps_cons ht rfl)).trans ?_, hzt, hlt⟩
  rw [hreturned, hrt]
  rfl

/-- The word of a read or a write, and the notification that starts it. -/
theorem runOps_transferWord {s : State} {b : Byte} {i : Instr} {k : CtrlState} (c : BitVec 16) (hok : s.cfg.ok = true)
    (hwired : s.cfg.wired = true)
    (hi : i = .z47Rsb ∧ b = 0x07#8 ∨ i = .z47Wsb ∧ b = s.cfg.codes.cmdWsb ∨ i = .z47Rcs ∧ b = s.cfg.codes.cmdRcs ∨
      i = .z47Invalid b)
    (hlink : s.z47.linkState = .awaitingToReceive) (hc : s.z47.ctrlState = .none) (hzero : s.z47.countDown = 0)
    (hcommand : commandOf s.cfg.codes b = k) (hk : k = .readSectorsBuffered ∨ k = .writeSectorsBuffered) :
    ∃ t, runOps [i, .tick c] s = some (t, []) ∧ t.z47.ctrlState = k ∧ t.z47.statePosition = 1 ∧
      t.z47.linkState = .awaitingToReqReceive ∧ t.link.busy = true ∧ t.link.dtr = false := by
  obtain ⟨u, t, hcfg, hz, hrun, hzt, hlt⟩ := runOps_commandWord c hok hwired hi hlink hzero
  obtain ⟨hzu, hlu⟩ := linkStep_of_transfer_received (s := u) (by rw [hz]) (by rw [hz, hc]) (by rw [hz])
    (by rw [hz, hcfg]; exact hcommand) hk
  refine ⟨t, hrun, ?_⟩
  simp [hzt, hlt, hzu, hlu]

/-- Settles O45: after the word the controller is Ready with its byte, and the link step starts the command that the byte names. -/
theorem commandWordsStartTheirCommand : Obligations.CommandWordsStartTheirCommand := by
  intro s c hok hwired hlink hc hzero
  obtain ⟨-, -, -, -, hcommands, -⟩ := config_ok_iff.1 hok
  obtain ⟨hwsb, -, -⟩ := commandsOk_iff.1 hcommands
  refine ⟨runOps_transferWord c hok hwired (.inl ⟨rfl, rfl⟩) hlink hc hzero (commandOf_cmdRsb _) (.inl rfl),
    runOps_transferWord c hok hwired (.inr (.inl ⟨rfl, rfl⟩)) hlink hc hzero (commandOf_cmdWsb hwsb) (.inr rfl), ?_, fun b hb => ?_⟩
  · obtain ⟨u, t, hcfg, hz, hrun, hzt, hlt⟩ := runOps_commandWord c hok hwired (.inr (.inr (.inl ⟨rfl, rfl⟩))) hlink hzero
    obtain ⟨hzu, hlu⟩ := linkStep_of_status_received (s := u) (by rw [hz]) (by rw [hz, hc]) (by rw [hz])
      (by rw [hz, hcfg]; exact commandOf_cmdRcs hcommands)
    refine ⟨t, hrun, ?_⟩
    simp [hzt, hlt, hzu, hlu, hz, hcfg]
  · obtain ⟨u, t, hcfg, hz, hrun, hzt, hlt⟩ := runOps_commandWord c hok hwired (.inr (.inr (.inr rfl))) hlink hzero
    obtain ⟨hzu, hlu⟩ := linkStep_of_invalid_received (s := u) (by rw [hz]) (by rw [hz, hc]) (by rw [hz])
      (by rw [hz, hcfg]; exact commandOf_of_noCommand hb)
    refine ⟨t, hrun, ?_⟩
    simp [hzt, hlt, hzu, hlu, hz]

/-! ### The data phase of a read (R340, R385) -/

section Reading
variable {s : State} (hlink : s.z47.linkState = .ready) (hc : s.z47.ctrlState = .readSectorsBuffered)
  (hpos : 3 ≤ s.z47.statePosition)
include hlink hc hpos

/-- With bytes left the image byte at the cursor is ready to send, and no signal changes. -/
theorem linkStep_of_reading_more (hmore : 1 ≤ s.z47.bytesToTransfer) :
    linkStep s = s.setZ47 { s.z47 with
      rxPending := false, statePosition := s.z47.statePosition + 1, linkState := .awaitingToTransmit
      txByte := imageByte s s.z47.drive s.z47.offset, offset := s.z47.offset + 1
      bytesToTransfer := s.z47.bytesToTransfer - 1 } := by
  have hleft : s.atNextPosition.z47.bytesToTransfer ≠ 0 := Nat.ne_of_gt hmore
  rw [linkStep_of_running hlink (by simp [hc]), nextPosition_eq, hc, handler, rsbHandler, if_neg (by omega), if_neg (by omega),
    if_neg (by omega), if_neg hleft]
  rfl

/-- With none left the command ends. -/
theorem linkStep_of_reading_done (hnone : s.z47.bytesToTransfer = 0) : linkStep s = commandComplete s.atNextPosition := by
  rw [linkStep_of_running hlink (by simp [hc]), nextPosition_eq, hc, handler, rsbHandler, if_neg (by omega), if_neg (by omega),
    if_neg (by omega), if_pos (show s.atNextPosition.z47.bytesToTransfer = 0 from hnone)]
  rfl

end Reading

/-- Settles O46: one more byte to send, or the end of the command. -/
theorem readDataPhaseStep : Obligations.ReadDataPhaseStep := by
  intro s c hclocked hzero hlevel hcard hcurrent hlink hc hpos
  refine ⟨fun hmore => ?_, fun hnone => ?_⟩
  · rw [exec_tick_of_expired c hclocked hzero, linkStep_of_reading_more hlink hc hpos hmore]
    rfl
  · rw [exec_tick_of_expired c hclocked hzero, linkStep_of_reading_done hlink hc hpos hnone,
      commandComplete_eq_settleIrq (s := s.atNextPosition) hlevel hcard hcurrent, ← settleIrq_setReturned]
    rfl

/-! ### The check of the parameters (R342) -/

theorem checkParams_keeps_linkState (v : Byte) (d : Direction) (s : State) :
    (checkParams v d s).1.z47.linkState = s.z47.linkState := by
  unfold checkParams
  dsimp only
  split_ifs <;> rfl

/-- A check that fails latches an error. -/
theorem checkParams_fails {v : Byte} {d : Direction} {s : State} (h : (checkParams v d s).2 = false) :
    (checkParams v d s).1.z47.err.any = true := by
  unfold checkParams at h ⊢
  dsimp only at h ⊢
  split_ifs at h ⊢ <;> simp [State.setErr, ErrorLatches.any]

/-- Position 3 of a read and of a write (R340, R341). -/
theorem handler_check {k : CtrlState} {d : Direction}
    (hk : k = .readSectorsBuffered ∧ d = .read ∨ k = .writeSectorsBuffered ∧ d = .write) (v : Byte) (s : State) :
    handler k 3 v s =
      ((checkParams v d s).1, if (checkParams v d s).2 then (if d = .read then .stay else .req) else .complete) := by
  rcases hk with ⟨rfl, rfl⟩ | ⟨rfl, rfl⟩ <;> rfl

/-- On a track and a sector of the disk one sector lies within the image (R133, R381). -/
theorem imageOffset_add_sector_le {track sector : Nat} (ht : track < tracks) (hs : sector ≤ sectorsPerTrack) :
    imageOffset track sector + sectorSize ≤ imageSize := by
  simp only [imageOffset, sectorSize, sectorsPerTrack, tracks, imageSize] at *
  omega

/-- At position 3 of a read and of a write the step acts as the check of the received byte asks for. -/
theorem linkStep_of_check {s : State} {d : Direction} (hlink : s.z47.linkState = .ready) (hpos : s.z47.statePosition = 2)
    (hk : s.z47.ctrlState = .readSectorsBuffered ∧ d = .read ∨ s.z47.ctrlState = .writeSectorsBuffered ∧ d = .write) :
    linkStep s =
      let r := checkParams s.z47.rxByte d s.atNextPosition
      applyAction (r.1, if r.2 then (if d = .read then .stay else .req) else .complete) := by
  have hruns : s.z47.ctrlState ≠ .none := by
    rcases hk with ⟨hc, -⟩ | ⟨hc, -⟩ <;> simp [hc]
  rw [linkStep_of_running hlink hruns, nextPosition_eq, hpos, handler_check hk]

/-- Settles O49: the order of the checks is that of the conditions of `checkParams`, and position 3 acts on its answer by
`linkStep_of_check`. -/
theorem parametersAreCheckedInOrder : Obligations.ParametersAreCheckedInOrder := by
  refine ⟨?_, ?_⟩
  · rintro s val dir setup rfl offset bytes absent noRecord overflow locked
    refine ⟨fun habsent => if_pos habsent, fun hpresent hplace => (if_neg hpresent).trans (if_pos hplace),
      fun hpresent hplace hover => (if_neg hpresent).trans ((if_neg hplace).trans (if_pos hover)),
      fun hpresent hplace hover hlocked =>
        (if_neg hpresent).trans ((if_neg hplace).trans ((if_neg hover).trans (if_pos hlocked))),
      fun hpresent hplace hover hlocked =>
        (if_neg hpresent).trans ((if_neg hplace).trans ((if_neg hover).trans (if_neg hlocked))),
      fun hone hplace => Nat.not_lt.2 ?_⟩
    simp only [noRecord, not_or, Nat.not_le, Nat.not_lt] at hplace
    obtain ⟨htrack, -, hsector⟩ := hplace
    have hbytes : bytes = sectorSize := by simp only [bytes, hone, Nat.one_mul]
    rw [hbytes]
    exact imageOffset_add_sector_le htrack hsector
  · intro s c dir r hclocked hzero hlevel hcard hcurrent hlink hpos hk hr
    have hnext : { s with z47 := { s.z47 with rxPending := false, statePosition := 3 } } = s.atNextPosition := by
      rw [State.atNextPosition, hpos]
      rfl
    rw [hnext] at hr
    rw [exec_tick_of_expired c hclocked hzero, linkStep_of_check hlink hpos hk, ← hr]
    have hcfg : r.1.cfg = s.cfg := by simp [hr, State.atNextPosition]
    have hl : r.1.link = s.link := by simp [hr, State.atNextPosition]
    have hhif : r.1.hif = s.hif := by simp [hr, State.atNextPosition]
    have hready : r.1.z47.linkState = .ready := by rw [hr, checkParams_keeps_linkState]; exact hlink
    refine ⟨fun hpass => ?_, fun hfail => ?_⟩
    · dsimp only
      rw [if_pos hpass]
      split
      · rw [← hready]
        rfl
      · rfl
    · have herr : r.1.z47.err.any = true := hr ▸ checkParams_fails (hr ▸ hfail)
      dsimp only
      rw [hfail, if_neg Bool.false_ne_true, applyAction]
      dsimp only
      rw [commandComplete_eq_settleIrq (by rwa [hcfg]) (by rwa [hcfg]) (hcurrent.congr hcfg hhif (by rw [hl]) (by rw [hl])),
        ← settleIrq_setReturned, hl, herr, Bool.or_true]
      rfl

/-! ### What an operation does to the controller (R325, R326, R327) -/

/-- What the host's acknowledge leaves of the controller (R326). -/
inductive AckMove (z : Z47) : Z47 → Prop where
  | kept : AckMove z z
  | delivered (b : Byte) (h : z.linkState = .awaitingToReceive) :
      AckMove z { z with rxByte := b, rxPending := true, linkState := .ready }
  | taken (h : z.linkState = .awaitingTransmitComplete) : AckMove z { z with linkState := .holdingDTR }

theorem onDtak_ackMove (s : State) : AckMove s.z47 (onDtak s).z47 := by
  unfold onDtak
  split <;> rename_i hlink
  · split
    · simpa using AckMove.delivered s.link.data hlink
    · exact .kept
  · exact .taken hlink
  all_goals exact .kept

theorem setDtak_ackMove (b : Bool) (s : State) : AckMove s.z47 (setDtak b s).z47 :=
  deviceSignal_induct (P := fun t => AckMove s.z47 t.z47) b .kept (onDtak_ackMove (s.setLink { s.link with dtak := b }))

theorem dtakPulse_ackMove (s : State) : AckMove s.z47 (dtakPulse s).z47 := by
  simpa [dtakPulse] using setDtak_ackMove true s

theorem cardDataIn_ackMove (s : State) : AckMove s.z47 (cardDataIn s).2.z47 := dtakPulse_ackMove (readByHost s).2

theorem cardDataOut_ackMove (v : Byte) (s : State) : AckMove s.z47 (cardDataOut v s).z47 := by
  simpa [cardDataOut] using dtakPulse_ackMove (sendHost v s)

/-- A master-reset signal leaves the controller as it is, or as power-on does (R350). -/
theorem setMr_z47_cases (b : Bool) (s : State) : (setMr b s).z47 = Z47.initial ∨ (setMr b s).z47 = s.z47 :=
  deviceSignal_induct (P := fun t => t.z47 = Z47.initial ∨ t.z47 = s.z47) b (.inr rfl) (.inl (masterReset_z47 _))

theorem cardMasterReset_z47_cases (b : Bool) (s : State) :
    (cardMasterReset b s).z47 = Z47.initial ∨ (cardMasterReset b s).z47 = s.z47 := by
  unfold cardMasterReset
  split
  · exact .inr rfl
  · exact setMr_z47_cases b (s.setHif { s.hif with mr := b })

theorem cardCommand_z47_cases (v : Byte) (s : State) : (cardCommand v s).z47 = Z47.initial ∨ (cardCommand v s).z47 = s.z47 := by
  simpa [cardCommand] using
    cardMasterReset_z47_cases (v.getLsbD 1) (s.setHif { s.hif with ie := v.getLsbD 6, u137b := v.getLsbD 0 })

/-- An operation resets the controller, or leaves of it what an acknowledge or one notification does. -/
theorem effect_z47_cases {s u : State} (he : Effect s u) :
    u.z47 = Z47.initial ∨ AckMove s.z47 u.z47 ∨ ∃ c, u = notification c s := by
  have hreset {z : Z47} (h : z = Z47.initial ∨ z = s.z47) : z = Z47.initial ∨ AckMove s.z47 z ∨ ∃ c, u = notification c s :=
    h.imp_right fun hkept => .inl (by rw [hkept]; exact .kept)
  cases he with
  | notification c => exact .inr (.inr ⟨c, rfl⟩)
  | cardCommand v => exact hreset (cardCommand_z47_cases v s)
  | setMr b => exact hreset (setMr_z47_cases b s)
  | cardDataIn => exact .inr (.inl (cardDataIn_ackMove s))
  | cardDataOut v => exact .inr (.inl (cardDataOut_ackMove v s))
  | setDtak b => exact .inr (.inl (setDtak_ackMove b s))
  | _ => exact .inr (.inl (by simpa using AckMove.kept))

/-- A controller that is not Ready only moves its link state, and writes no image (R321). -/
theorem linkStep_of_not_ready {s : State} (hlink : s.z47.linkState ≠ .ready) :
    (∃ l, (linkStep s).z47 = { s.z47 with linkState := l }) ∧ (linkStep s).media = s.media := by
  unfold linkStep
  split
  · contradiction
  · exact ⟨⟨.awaitingToReceive, by simp⟩, by simp⟩
  · exact ⟨⟨_, rfl⟩, rfl⟩
  · exact ⟨⟨.awaitingTransmitComplete, by simp⟩, by simp⟩
  · exact ⟨⟨_, rfl⟩, rfl⟩
  · exact ⟨⟨.awaitingReadyState, by simp⟩, by simp⟩
  · refine ⟨⟨.ready, ?_⟩, ?_⟩ <;> dsimp only <;> split <;> simp

/-! ### What a handler does to the controller (R331, R340 to R344) -/

/-- Latches that are set stay set, and those that no rule sets are as before (R353). -/
structure ErrorLatches.Grows (e e' : ErrorLatches) : Prop where
  driveNotReady : e.driveNotReady = true → e'.driveNotReady = true
  diskWriteProtected : e.diskWriteProtected = true → e'.diskWriteProtected = true
  noRecordFound : e.noRecordFound = true → e'.noRecordFound = true
  invalidCommandReceived : e.invalidCommandReceived = true → e'.invalidCommandReceived = true
  badTrackOverflow : e.badTrackOverflow = true → e'.badTrackOverflow = true
  deletedData : e'.deletedData = e.deletedData
  crcError : e'.crcError = e.crcError
  lateData : e'.lateData = e.lateData

theorem ErrorLatches.Grows.refl (e : ErrorLatches) : e.Grows e := ⟨id, id, id, id, id, rfl, rfl, rfl⟩

/-- The parameter check latches at most one error (R342). -/
theorem checkParams_grows (v : Byte) (d : Direction) (s : State) : s.z47.err.Grows (checkParams v d s).1.z47.err := by
  unfold checkParams
  dsimp only
  split_ifs
  · exact ⟨fun _ => rfl, id, id, id, id, rfl, rfl, rfl⟩
  · exact ⟨id, id, fun _ => rfl, id, id, rfl, rfl, rfl⟩
  · exact ⟨id, id, id, id, fun _ => rfl, rfl, rfl, rfl⟩
  · exact ⟨id, fun _ => rfl, id, id, id, rfl, rfl, rfl⟩
  · exact .refl _

/-- A handler that leaves the link state, and clears no latch. -/
structure HandlerMove (z z' : Z47) : Prop where
  linkState : z'.linkState = z.linkState
  err : z.err.Grows z'.err

theorem HandlerMove.of_same {z z' : Z47} (hlink : z'.linkState = z.linkState) (herr : z'.err = z.err) : HandlerMove z z' :=
  ⟨hlink, herr ▸ .refl z.err⟩

theorem checkParams_move (v : Byte) (d : Direction) (s : State) : HandlerMove s.z47 (checkParams v d s).1.z47 :=
  ⟨checkParams_keeps_linkState v d s, checkParams_grows v d s⟩

theorem rsbHandler_move (pos : Nat) (v : Byte) (s : State) : HandlerMove s.z47 (rsbHandler pos v s).1.z47 := by
  unfold rsbHandler
  split_ifs
  · exact .of_same rfl rfl
  · exact .of_same rfl rfl
  · exact checkParams_move v .read s
  · exact .of_same rfl rfl
  · exact .of_same rfl rfl

theorem wsbHandler_move (pos : Nat) (v : Byte) (s : State) : HandlerMove s.z47 (wsbHandler pos v s).1.z47 := by
  unfold wsbHandler
  split_ifs
  · exact .of_same rfl rfl
  · exact .of_same rfl rfl
  · exact checkParams_move v .write s
  · exact .of_same rfl rfl

/-- The handlers, but that of a status report at its first position (R343). -/
theorem handler_move {k : CtrlState} {pos : Nat} (h : k = .readControllerStatus → pos ≠ 1) (v : Byte) (s : State) :
    HandlerMove s.z47 (handler k pos v s).1.z47 := by
  cases k with
  | none => exact .of_same rfl rfl
  | readSectorsBuffered => exact rsbHandler_move pos v s
  | writeSectorsBuffered => exact wsbHandler_move pos v s
  | readControllerStatus =>
    rw [handler, rcsHandler, if_neg (h rfl)]
    exact .of_same rfl rfl
  | invalidCommand => exact ⟨rfl, id, id, id, fun _ => rfl, id, rfl, rfl, rfl⟩

/-- No handler moves the link. -/
theorem handler_keeps_linkState (k : CtrlState) (pos : Nat) (v : Byte) (s : State) :
    (handler k pos v s).1.z47.linkState = s.z47.linkState := by
  by_cases h : k = .readControllerStatus ∧ pos = 1
  · obtain ⟨rfl, rfl⟩ := h
    simp [handler, rcsHandler, State.setErr]
  · exact (handler_move (fun hk hpos => h ⟨hk, hpos⟩) v s).linkState

/-! ### The moves of the link state (R322) -/

/-- The link state stays, or moves along an edge of R322. -/
def LinkMove (z z' : Z47) : Prop := z'.linkState = z.linkState ∨ linkEdge z.linkState z'.linkState = true

/-- Each action on a handler's answer is an edge from Ready, or stays there (R330). -/
theorem applyAction_linkMove {r : State × Action} (hready : r.1.z47.linkState = .ready) : LinkMove r.1.z47 (applyAction r).z47 := by
  obtain ⟨s, a⟩ := r
  unfold LinkMove
  rw [hready]
  cases a with
  | req => exact .inr rfl
  | tx b => exact .inr rfl
  | stay => exact .inl hready
  | complete => exact .inr (by simp [applyAction, commandComplete_z47, linkEdge])

/-- A handler leaves the link state, and the action on its answer moves it. -/
theorem applyAction_handler_linkMove {s : State} (hready : s.z47.linkState = .ready) (k : CtrlState) (pos : Nat) (v : Byte) :
    LinkMove s.z47 (applyAction (handler k pos v s)).z47 := by
  have hkept := handler_keeps_linkState k pos v s
  simpa only [LinkMove, hkept] using applyAction_linkMove (hkept.trans hready)

theorem controllerDispatch_linkMove {s : State} (hready : s.z47.linkState = .ready) : LinkMove s.z47 (controllerDispatch s).z47 := by
  unfold controllerDispatch
  split_ifs
  · have hstart : (s.atStart s.z47.rxByte).z47.linkState = s.z47.linkState := by rw [atStart_z47]
    rw [startCommand_eq]
    simpa only [LinkMove, hstart] using applyAction_handler_linkMove (hstart.trans hready) _ _ _
  · exact .inr (by simp [hready, linkEdge])
  · exact applyAction_handler_linkMove (s := s.atNextPosition) hready _ _ _

theorem linkStep_linkMove (s : State) : LinkMove s.z47 (linkStep s).z47 := by
  unfold linkStep
  split <;> rename_i hlink
  · exact controllerDispatch_linkMove hlink
  · exact .inr (by simp [hlink, linkEdge])
  · exact .inl rfl
  · exact .inr (by simp [hlink, linkEdge])
  · exact .inl rfl
  · exact .inr (by simp [hlink, linkEdge])
  · exact .inr (by simp [hlink, linkEdge])

theorem notification_linkMove (c : Nat) (s : State) : LinkMove s.z47 (notification c s).z47 := by
  unfold notification
  split
  · exact .inl rfl
  · exact linkStep_linkMove (s.setZ47 { s.z47 with countDown := 0 })

/-- An acknowledge makes one of two moves, or none. -/
theorem AckMove.linkMove {z z' : Z47} (h : AckMove z z') : LinkMove z z' := by
  cases h with
  | kept => exact .inl rfl
  | delivered b hlink => exact .inr (by rw [hlink]; rfl)
  | taken hlink => exact .inr (by rw [hlink]; rfl)

/-- Settles O41: an acknowledge and a notification make at most one move each, and what is left is the master reset. -/
theorem onlyListedLinkTransitions : Obligations.OnlyListedLinkTransitions := by
  intro i s t h
  obtain ⟨u, r, he, rfl⟩ := exec_effect h
  rw [State.setReturned_z47]
  rcases effect_z47_cases he with hreset | hack | ⟨c, rfl⟩
  · exact .inr (.inl hreset)
  · exact hack.linkMove.imp_right .inr
  · exact (notification_linkMove c s).imp_right .inr

/-! ### The error latches (R331, R353, R354) -/

/-- An action leaves the latches (R330, R332). -/
theorem applyAction_err (r : State × Action) : (applyAction r).z47.err = r.1.z47.err := by
  obtain ⟨s, a⟩ := r
  cases a with
  | complete => simp [applyAction, commandComplete_z47]
  | _ => rfl

/-- The controller `z'` has started a status report, which cleared the latches, or its latches are those of `z` and more. -/
def LatchMove (z z' : Z47) : Prop :=
  (z.ctrlState = .none ∧ z'.ctrlState = .readControllerStatus ∧ z'.err = ErrorLatches.clear) ∨ z.err.Grows z'.err

theorem LatchMove.of_same {z z' : Z47} (h : z'.err = z.err) : LatchMove z z' := .inr (h ▸ .refl z.err)

/-- A handler clears no latch, and the action on its answer none either. -/
theorem applyAction_handler_grows {s : State} {k : CtrlState} {pos : Nat} (h : k = .readControllerStatus → pos ≠ 1) (v : Byte) :
    s.z47.err.Grows (applyAction (handler k pos v s)).z47.err :=
  applyAction_err (handler k pos v s) ▸ (handler_move h v s).err

/-- A received byte starts a status report, or a command that clears nothing (R329, R333). -/
theorem linkStep_latchMove_of_received {s : State} (hlink : s.z47.linkState = .ready) (hc : s.z47.ctrlState = .none)
    (hpending : s.z47.rxPending = true) : LatchMove s.z47 (linkStep s).z47 := by
  by_cases hstatus : commandOf s.cfg.codes s.z47.rxByte = .readControllerStatus
  · obtain ⟨hz, -⟩ := linkStep_of_status_received hlink hc hpending hstatus
    exact .inl ⟨hc, by rw [hz], by rw [hz]⟩
  · have herr : (s.atStart s.z47.rxByte).z47.err = s.z47.err := by rw [atStart_z47]
    have hother : (s.atStart s.z47.rxByte).z47.ctrlState = .readControllerStatus → (1 : Nat) ≠ 1 := by
      rw [atStart_z47]
      exact fun h => absurd h hstatus
    rw [linkStep_of_received hlink hc hpending, startCommand_eq]
    exact .inr (herr ▸ applyAction_handler_grows hother _)

/-- A running command is past its first position in the next one, so that it clears nothing. -/
theorem linkStep_latchMove {s : State} (hstarted : s.z47.ctrlState ≠ .none → 1 ≤ s.z47.statePosition) :
    LatchMove s.z47 (linkStep s).z47 := by
  by_cases hlink : s.z47.linkState = .ready
  · by_cases hc : s.z47.ctrlState = .none
    · cases hpending : s.z47.rxPending with
      | true => exact linkStep_latchMove_of_received hlink hc hpending
      | false =>
        rw [linkStep_of_idle hlink hc hpending]
        exact .of_same rfl
    · have hpos := hstarted hc
      rw [linkStep_of_running hlink hc, nextPosition_eq]
      exact .inr (applyAction_handler_grows (s := s.atNextPosition) (fun _ => by omega) _)
  · obtain ⟨⟨l, hz⟩, -⟩ := linkStep_of_not_ready hlink
    exact .of_same (by rw [hz])

theorem notification_latchMove {s : State} (hstarted : s.z47.ctrlState ≠ .none → 1 ≤ s.z47.statePosition) (c : Nat) :
    LatchMove s.z47 (notification c s).z47 := by
  unfold notification
  split
  · exact .of_same rfl
  · exact linkStep_latchMove (s := s.setZ47 { s.z47 with countDown := 0 }) hstarted

/-- An acknowledge leaves the latches (R326). -/
theorem AckMove.err {z z' : Z47} (h : AckMove z z') : z'.err = z.err := by
  cases h <;> rfl

/-- Settles O51: a master reset and a status report leave no latch set, and every other move leaves those that were set. -/
theorem latchesAccumulate : Obligations.LatchesAccumulate := by
  intro i s t h hstarted
  obtain ⟨u, r, he, rfl⟩ := exec_effect h
  rw [State.setReturned_z47]
  have hmove : u.z47 = Z47.initial ∨ LatchMove s.z47 u.z47 := by
    rcases effect_z47_cases he with hreset | hack | ⟨c, rfl⟩
    · exact .inl hreset
    · exact .inr (.of_same hack.err)
    · exact .inr (notification_latchMove hstarted c)
  rcases hmove with hreset | ⟨hidle, hstatus, hclear⟩ | hgrows
  · refine ⟨?_, .inl hreset⟩
    simp [hreset, Z47.initial, ErrorLatches.clear]
  · refine ⟨?_, .inr (.inl ⟨hidle, hstatus⟩)⟩
    simp [hclear, ErrorLatches.clear]
  · obtain ⟨hdrive, hprotected, hrecord, hinvalid, hoverflow, hdeleted, hcrc, hlate⟩ := hgrows
    rw [hdeleted, hcrc, hlate]
    exact ⟨⟨id, id, id⟩, .inr (.inr ⟨hdrive, hprotected, id, hrecord, id, id, hinvalid, hoverflow⟩)⟩

/-! ### The bytes that a read hands the host (R323, R340, R345) -/

/-- Only a Ready controller writes the images. -/
theorem notification_media {s : State} (c : Nat) (hlink : s.z47.linkState ≠ .ready) : (notification c s).media = s.media := by
  unfold notification
  split
  · rfl
  · exact (linkStep_of_not_ready (s := s.setZ47 { s.z47 with countDown := 0 }) hlink).2

/-- The moves from here to Ready, in the handshake that hands the host a byte (R323). -/
def LinkState.movesToReady : LinkState → Nat
  | .awaitingToTransmit => 4
  | .awaitingTransmitComplete => 3
  | .holdingDTR => 2
  | .awaitingReadyState => 1
  | .ready | .awaitingToReqReceive | .awaitingToReceive => 0

theorem movesToReady_le_of_linkEdge {a b : LinkState} (h : linkEdge a b = true) : a.movesToReady ≤ b.movesToReady + 1 := by
  unfold linkEdge at h
  split at h
  any_goals decide
  cases h

/-- One move takes the handshake at most one state on. -/
theorem LinkMove.movesToReady_le {z z' : Z47} (h : LinkMove z z') :
    z.linkState.movesToReady ≤ z'.linkState.movesToReady + 1 := by
  obtain hsame | hedge := h
  · rw [hsame]
    exact Nat.le_succ _
  · exact movesToReady_le_of_linkEdge hedge

/-- A notification or a data read: the link makes at most one move, and the images stay while the controller is not Ready. -/
theorem exec_handshake {i : Instr} {s t : State} (hwired : s.cfg.wired = true) (hi : i = .z47Din ∨ ∃ c, i = .tick c)
    (h : exec i s = .next t) :
    t.cfg = s.cfg ∧ LinkMove s.z47 t.z47 ∧ (s.z47.linkState ≠ .ready → t.media = s.media) := by
  rcases hi with rfl | ⟨c, rfl⟩
  · cases (congrArg answer (ioIn_z47DataPort hwired)).symm.trans h
    exact ⟨by simp, (cardDataIn_ackMove s).linkMove, fun _ => by simp⟩
  · obtain ⟨-, -, -, -, -, hclocked⟩ := wired_iff.1 hwired
    cases (exec_tick_of_clocked c hclocked).symm.trans h
    exact ⟨by simp, notification_linkMove _ s, notification_media _⟩

/-- A run that ends began with an operation that answers, and went on from there. -/
theorem exists_of_runOps_cons {i : Instr} {is : List Instr} {s u : State} {bs : List Byte} (h : runOps (i :: is) s = some (u, bs)) :
    ∃ t cs, exec i s = .next t ∧ runOps is t = some (u, cs) := by
  rw [runOps] at h
  split at h
  · rename_i t ht
    split at h
    · rename_i v cs hrest
      cases h
      exact ⟨t, cs, ht, hrest⟩
    · cases h
  · cases h
  · cases h

/-- Notifications and data reads no more than the handshake has moves left write no image byte: the controller is not Ready before the
last of them. -/
theorem runOps_handshake_media {ops : List Instr} {s t : State} {bs : List Byte}
    (hops : ∀ i ∈ ops, i = .z47Din ∨ ∃ c, i = .tick c) (hwired : s.cfg.wired = true)
    (hlength : ops.length ≤ s.z47.linkState.movesToReady) (h : runOps ops s = some (t, bs)) : t.media = s.media := by
  induction ops generalizing s bs with
  | nil =>
    cases h
    rfl
  | cons i ops ih =>
    obtain ⟨hi, hops⟩ := List.forall_mem_cons.1 hops
    obtain ⟨u, cs, hfirst, hrest⟩ := exists_of_runOps_cons h
    obtain ⟨hcfg, hmove, hmedia⟩ := exec_handshake hwired hi hfirst
    have hnext := hmove.movesToReady_le
    rw [List.length_cons] at hlength
    have hlink : s.z47.linkState ≠ .ready := fun hready => by simp [hready, LinkState.movesToReady] at hlength
    rw [ih hops (by rwa [hcfg]) (by omega) hrest, hmedia hlink]

/-- One round of the handshake in the data phase of a read hands the host the image byte at the cursor. -/
theorem runOps_readByteOps {s : State} (c1 c2 c3 c4 : BitVec 16) (hwired : s.cfg.wired = true) (hzero : s.z47.countDown = 0)
    (hlink : s.z47.linkState = .ready) (hc : s.z47.ctrlState = .readSectorsBuffered) (hpos : 3 ≤ s.z47.statePosition)
    (hmore : 1 ≤ s.z47.bytesToTransfer) :
    ∃ t, runOps (readByteOps c1 c2 c3 c4) s = some (t, [imageByte s s.z47.drive s.z47.offset]) ∧ t.cfg = s.cfg ∧
      t.media = s.media ∧
      t.z47 = { s.z47 with
        rxPending := false, statePosition := s.z47.statePosition + 1, linkState := .ready
        txByte := imageByte s s.z47.drive s.z47.offset, offset := s.z47.offset + 1
        bytesToTransfer := s.z47.bytesToTransfer - 1 } := by
  obtain ⟨-, -, -, -, -, hclocked⟩ := wired_iff.1 hwired
  have hfetch := exec_tick_of_expired c1 hclocked hzero
  rw [linkStep_of_reading_more hlink hc hpos hmore] at hfetch
  generalize hu : (s.setZ47 _).setReturned none = u at hfetch
  have hcfg : u.cfg = s.cfg := by rw [← hu]; rfl
  have hmedia : u.media = s.media := by rw [← hu]; rfl
  have hwiredu : u.cfg.wired = true := by rwa [hcfg]
  have hsending : u.z47.linkState = .awaitingToTransmit := by rw [← hu]; rfl
  obtain ⟨t, hrun, htcfg, htz, -⟩ := runOps_sendByte c2 c3 c4 hwiredu (by rw [← hu]; exact hzero) hsending
  have htmedia : t.media = u.media :=
    runOps_handshake_media (by simp) hwiredu (by rw [hsending]; rfl) hrun
  refine ⟨t, (runOps_cons hfetch hrun).trans ?_, htcfg.trans hcfg, htmedia.trans hmedia, ?_⟩
  · rw [← hu]
    rfl
  · rw [htz, ← hu]
    rfl

/-- The rounds of a read, one for each byte. -/
theorem runOps_readBytes (n : Nat) (c1 c2 c3 c4 : BitVec 16) {s : State} (hwired : s.cfg.wired = true) (hzero : s.z47.countDown = 0)
    (hlink : s.z47.linkState = .ready) (hc : s.z47.ctrlState = .readSectorsBuffered) (hpos : 3 ≤ s.z47.statePosition)
    (hn : n ≤ s.z47.bytesToTransfer) :
    ∃ t, runOps (repeatOps n (readByteOps c1 c2 c3 c4)) s =
        some (t, (List.range n).map fun k => imageByte s s.z47.drive (s.z47.offset + k)) ∧
      t.media = s.media ∧ t.z47.linkState = .ready ∧ t.z47.ctrlState = .readSectorsBuffered ∧
      t.z47.statePosition = s.z47.statePosition + n ∧ t.z47.offset = s.z47.offset + n ∧
      t.z47.bytesToTransfer = s.z47.bytesToTransfer - n := by
  induction n generalizing s with
  | zero => exact ⟨s, rfl, rfl, hlink, hc, rfl, rfl, rfl⟩
  | succ n ih =>
    obtain ⟨u, hround, hcfg, hmedia, hz⟩ := runOps_readByteOps c1 c2 c3 c4 hwired hzero hlink hc hpos (by omega)
    obtain ⟨t, hrounds, htmedia, htlink, htc, htpos, htoffset, htleft⟩ := ih (s := u) (by rwa [hcfg]) (by rw [hz]; exact hzero)
      (by rw [hz]) (by rw [hz]; exact hc) (by rw [hz]; exact Nat.le_succ_of_le hpos) (by rw [hz]; exact Nat.le_sub_of_add_le hn)
    have hbytes (k : Nat) : imageByte u u.z47.drive (u.z47.offset + k) = imageByte s s.z47.drive (s.z47.offset + (k + 1)) := by
      rw [imageByte, imageByte, hmedia, hz, Nat.add_assoc, Nat.add_comm 1 k]
    refine ⟨t, (runOps_append hround hrounds).trans ?_, htmedia.trans hmedia, htlink, htc, ?_, ?_, ?_⟩
    · simp [hbytes, List.range_succ_eq_map, Function.comp_def]
    · rw [htpos, hz, Nat.add_assoc, Nat.add_comm 1 n]
    · rw [htoffset, hz, Nat.add_assoc, Nat.add_comm 1 n]
    · rw [htleft, hz, Nat.sub_sub, Nat.add_comm 1 n]

/-- Settles O53: each byte is one round of `runOps_readBytes`. -/
theorem readStreamsTheImageInOrder : Obligations.ReadStreamsTheImageInOrder :=
  fun n _ c1 c2 c3 c4 _ hwired hzero hlink hc hpos hn => runOps_readBytes n c1 c2 c3 c4 hwired hzero hlink hc hpos hn

end Sys2Proof.Machine

/-! Exceptions (60_exceptions.md): every operation completes, and the two refusals of a step. -/

namespace Sys2Proof.Machine

/-! ### Completion and refusal (R400) -/

/-- Of the three outcomes only the next state is left: no fault exists, and `exec` refuses nothing. -/
theorem exec_completes (i : Instr) (s : State) : ∃ t, exec i s = .next t := by
  cases h : exec i s with
  | next t => exact ⟨t, rfl⟩
  | fault r => exact nomatch r
  | refused r => exact absurd h (exec_ne_refused i s r)

theorem runWord_of_decode_error {s : State} {w : OpWord} {e : DecodeError} (h : decode s.cfg.codes w = .error e) :
    runWord w s = .refused (.reservedWord e) := by simp [runWord, h]

/-- Settles O9, along what a step does: the configuration is checked, a word fetched, decoded and run. -/
theorem everyOperationCompletes : Obligations.EveryOperationCompletes := by
  refine ⟨exec_completes, fun s => ?_⟩
  cases hok : s.cfg.ok with
  | false => exact .inr (.inl ⟨rfl, step_of_not_ok hok⟩)
  | true =>
    cases hops : s.ops with
    | nil => exact .inl ⟨s, step_of_fetch_none hok (fetch_of_ops_nil hops)⟩
    | cons w rest =>
      have hstep : step s = runWord w (s.setOps rest) := step_of_fetch_some hok (fetch_of_ops_cons hops)
      cases hdec : decode s.cfg.codes w with
      | error e => exact .inr (.inr ⟨w, rest, e, rfl, hdec, hstep.trans (runWord_of_decode_error hdec)⟩)
      | ok i =>
        obtain ⟨t, ht⟩ := exec_completes i (s.setOps rest)
        exact .inl ⟨t, (hstep.trans (runWord_of_decode hdec)).trans ht⟩

end Sys2Proof.Machine
